-- ==== Sys2Proof/Word.lean ====
section
/-! DEFINITION. The part's two word sizes: the byte of every format, and the 16-bit field (handles, leases, masks, values). -/

namespace Sys2Proof

/-- One byte of a frame, of the register window or of the configuration image (chapter 12). -/
abbrev Byte := BitVec 8

/-- A 16-bit field: a handle, a mask, an attribute value, a lease (chapter 12). -/
abbrev Half := BitVec 16

end Sys2Proof
end

