-- ==== Sys2Proof/Syntax.lean ====
section
/-! DEFINITION. The commands the block takes: one constructor of Instr for each row of spec/opcode_table.json. -/

namespace Sys2Proof

/-- What a trunk line was during the millisecond that a millisecond tick ends (R110, R112): low throughout, high
throughout, or each for a part of it. -/
inductive LineMs where
  | low
  | high
  | mixed
  deriving DecidableEq, Repr, Inhabited

/-- One event of the part (spec/opcode_table.json, "the part's steps, each whole and indivisible").
A grant's inputs lie in the requester that was granted (a command slot, a trunk context), so its row has no operand. -/
inductive Instr where
  /-- RESET low, or power-on (R186). -/
  | fullReset
  /-- RESET rises and the configuration load begins (R186). -/
  | loadStart
  /-- The loader's transfer completes: the four acknowledges of R187's steps 2 to 4 (line address written, memory
  address high, memory address low, line address read) and the bytes the memory shifts out (R187 to R189). -/
  | configRead (addressAck highAck lowAck readAck : Bool) (bytes : List Byte)
  /-- The loader judges the next preset (R191, R192). -/
  | presetCreate
  /-- Load end (R194). -/
  | loadEnd
  /-- HRST falls (R185). -/
  | hostReset
  /-- The millisecond divider reaches the divider value in force, and the period after that ends the millisecond with a
  millisecond tick; with what TKC and TKD were during that millisecond (R53, R110, R112). -/
  | msTick (tkc tkd : LineMs)
  /-- A 10-ms tick (R55, R134). -/
  | tenMsTick
  /-- A second tick (R55, R57). -/
  | secondTick
  /-- A Sweep grant (R60). -/
  | sweep
  /-- A Command grant of each of the 18 commands (R154), and of a CODE that names none. -/
  | create
  | amend
  | putAttr
  | dropAttr
  | retire
  | read
  | readAttr
  | lock
  | unlock
  | searchStart
  | searchCancel
  | results
  | searchRelease
  | collect
  | readForward
  | answer
  | purge
  | setParam
  | unknownCommand
  /-- A control write of 01h to a slot's CONTROL/STATE (R149, R150). -/
  | post (slot : Fin 4)
  /-- A control write of 02h (R153). -/
  | release (slot : Fin 4)
  /-- A control write of 03h (R152). -/
  | abort (slot : Fin 4)
  /-- A write of `value` to FLAGS (R169, R181). -/
  | flagsWrite (value : Byte)
  /-- A write of `value` to TRUNK CAUSE (R170). -/
  | trunkCauseWrite (value : Byte)
  /-- A write of `value` to ENABLES (R171). -/
  | enablesWrite (value : Byte)
  /-- A write to POWER of a byte whose host state bit is 0 (R175). -/
  | powerDoze (value : Byte)
  /-- A write to POWER of a byte whose host state bit is 1 (R175). -/
  | powerAwake (value : Byte)
  /-- A write of `value` to any other window byte (R146, R148). -/
  | windowWrite (address value : Byte)
  /-- A low run has reached 25 (R110, R111). -/
  | trunkFault
  /-- A millisecond tick in FAULT found both lines high throughout (R112). -/
  | faultRelease
  /-- TKD falls while TKC is high, link IDLE (R107). -/
  | startCondition
  /-- TKD falls while TKC is high, link BUSY (R107). -/
  | restartCondition
  /-- TKD rises while TKC is high (R107). -/
  | stopCondition
  /-- A whole byte of a frame another master sends (R115, R116). -/
  | receiveByte (value : Byte)
  /-- The transmitter takes the head of the ready queue (R118). -/
  | replySendStart
  /-- The acknowledge bit after a byte the part sent: true for an acknowledge (low), false for a refusal (R121). -/
  | sendByteAck (acknowledged : Bool)
  /-- In data bit `bit` (7 first) of the byte being sent the part released TKD and read it low (R120). -/
  | arbitrationLost (bit : Fin 8)
  /-- A Trunk grant of each request kind (R128), and of a malformed request. -/
  | announce
  | refresh
  | withdraw
  | seek
  | fetch
  | postAttr
  | trunkDropAttr
  | claim
  | yield
  | reject
  /-- A Search grant (R94). -/
  | searchStep
  /-- The deadlines that have reached 0 expire (R134). -/
  | deadlineExpiry
  /-- HRST rises (R147). -/
  | hostResetRelease
  deriving DecidableEq, Repr

end Sys2Proof
end

