-- ==== Sys2Proof/WellFormed.lean ====
section
/-! DEFINITION. Which commands spell a row of the table: a POWER write belongs to the row its host state bit names, and
WINDOW_WRITE is a write to "any other window byte". Slot numbers and bit positions are bounded by their types. -/

namespace Sys2Proof

/-- Offset 01h of a command slot is CONTROL/STATE (12.3): window addresses 01h, 31h, 61h and 91h. -/
def controlAddress (address : Byte) : Bool :=
  address == 0x01#8 || address == 0x31#8 || address == 0x61#8 || address == 0x91#8

/-- A write that has a row of its own: POST, RELEASE or ABORT (a control value of 01h to 03h), FLAGS C1h, ENABLES C2h,
TRUNK CAUSE C3h, POWER C4h (12.1, 12.4). -/
def dedicatedWrite (address value : Byte) : Bool :=
  (controlAddress address && (value == 0x01#8 || value == 0x02#8 || value == 0x03#8))
    || address == 0xC1#8 || address == 0xC2#8 || address == 0xC3#8 || address == 0xC4#8

/-- The checks on a command's operands. -/
def Instr.wellFormed : Instr → Bool
  | .powerDoze value => !value.getLsbD 0
  | .powerAwake value => value.getLsbD 0
  | .windowWrite address value => !dedicatedWrite address value
  | .fullReset | .loadStart | .configRead _ _ _ _ _ | .presetCreate | .loadEnd | .hostReset
  | .msTick _ _ | .tenMsTick | .secondTick | .sweep
  | .create | .amend | .putAttr | .dropAttr | .retire | .read | .readAttr | .lock | .unlock
  | .searchStart | .searchCancel | .results | .searchRelease | .collect | .readForward | .answer
  | .purge | .setParam | .unknownCommand
  | .post _ | .release _ | .abort _ | .flagsWrite _ | .trunkCauseWrite _ | .enablesWrite _
  | .trunkFault | .faultRelease | .startCondition | .restartCondition | .stopCondition
  | .receiveByte _ | .replySendStart | .sendByteAck _ | .arbitrationLost _
  | .announce | .refresh | .withdraw | .seek | .fetch | .postAttr | .trunkDropAttr | .claim | .yield
  | .reject | .searchStep | .deadlineExpiry | .hostResetRelease => true

end Sys2Proof
end

