-- ==== Sys2Proof/Config.lean ====
section
/-! DEFINITION. What the manual leaves to the board: two free values, with no body, so that nothing can be proved of which
value they are. -/

namespace Sys2Proof

/-- The byte that the configuration memory shifts out at address `k` where the operand of CONFIG_READ lists none:
"A memory smaller than the length asks for wraps its addresses or returns bytes of its own choosing" (R188; log 7). -/
opaque Config.memoryByte : Nat → Byte

/-- What TKC and TKD were during the `k`-th millisecond that ends on an empty queue, where no MS_TICK says it (log 23). -/
opaque Config.idleLines : Nat → LineMs × LineMs

end Sys2Proof
end

