-- ==== Sys2Proof/Machine/Blocks.lean ====
section
/-! DEFINITION. What each block of the part holds (00_scope.md, section 3), as plain data, with its values after a full
reset. State.lean puts the blocks together. -/

namespace Sys2Proof.Machine

/-! ## Names shared by the blocks -/

/-- A handle: generation × 256 + slot (R5). -/
abbrev Handle := Half

/-- A slot number, 0 to 255 (R1). -/
abbrev SlotNo := Fin 256

/-- A requester or a lock holder: LOCAL, or a node address (00_scope.md 5.4, R72). -/
inductive Party where
  | loc
  | node (address : Byte)
  deriving DecidableEq, Repr

/-- The result codes (R52). -/
inductive ResultCode where
  | ok | none_ | full | duplicate | unknown | notOwner | notHolder | locked | inactive | badParam
  | attrFull | noAttr | busy | denied | deferred | partial_ | tooLate | aborted
  deriving DecidableEq, Repr

/-- A fixed array with a function applied to each of its items (by way of its list, so that it evaluates). -/
def mapAll {α β : Type} {n : Nat} (f : α → β) (v : Vector α n) : Vector β n :=
  ⟨(v.toList.map f).toArray, by simp⟩

/-! ## Directory (chapter 1) -/

/-- The origin of an entry; an entry of TRUNK origin has an owner node (R7). -/
inductive Origin where
  | loc
  | trunk (owner : Byte)
  deriving DecidableEq, Repr

/-- How far an entry is shown on the trunk (R12). -/
inductive Visibility where
  | open_ | guarded | closed
  deriving DecidableEq, Repr

/-- A lock: its holder and the seconds left before it lapses (R16, R72). -/
structure Lock where
  holder : Party
  lapse : Nat
  deriving DecidableEq, Repr

/-- An attribute pair (R17). -/
structure Attr where
  id : Byte
  value : Half
  deriving DecidableEq, Repr

/-- The reasons an entry may be marked with (R18). -/
inductive Mark where
  | created | changed | stale | revived | retired | lockLapsed
  deriving DecidableEq, Repr

/-- A set of mark reasons; each is held at most once (R18). -/
structure Marks where
  created : Bool := false
  changed : Bool := false
  stale : Bool := false
  revived : Bool := false
  retired : Bool := false
  lockLapsed : Bool := false
  deriving DecidableEq, Repr

/-- The state of a slot in use, with the field that only that state has (R1, R2): a LIVE entry with a lease length has a
lease remaining, a STALE entry has a grace remaining. -/
inductive Life where
  | live (leaseRemaining : Option Nat)
  | stale (grace : Nat)
  | spent
  deriving DecidableEq, Repr

/-- The record of a slot in use (R1). Lengths of time are in seconds. -/
structure Entry where
  origin : Origin
  tag : List Byte
  cls : Byte
  reach : Option Byte
  visibility : Visibility
  watch : Bool
  wake : Bool
  leaseLength : Option Nat
  life : Life
  lock : Option Lock
  attrs : List Attr
  marks : Marks
  deriving DecidableEq, Repr

/-- A slot: its generation, and its entry unless it is FREE (R1, R4, R19). -/
structure Slot where
  generation : Byte
  entry : Option Entry
  deriving DecidableEq, Repr

/-- The directory (R1, R20, R24). -/
structure Directory where
  slots : Vector Slot 256
  free : List SlotNo
  collectCursor : SlotNo
  deriving DecidableEq, Repr

/-- The slot numbers in ascending order. -/
def allSlots : List SlotNo := List.finRange 256

/-- R25: every slot FREE with generation 0, the free list ascending, the collect cursor 255. -/
def Directory.reset : Directory :=
  { slots := Vector.replicate 256 { generation := 0, entry := none }, free := allSlots, collectCursor := 255 }

/-! ## Directory arbiter (R26 to R28) -/

/-- The four request classes (R26). -/
inductive GrantClass where
  | command | trunk | search | sweep
  deriving DecidableEq, Repr

/-- The two numbers the arbiter keeps (R27, R28). -/
structure Arbiter where
  lastGranted : GrantClass
  lastServed : Fin 4
  deriving DecidableEq, Repr

/-- R27, R28: Sweep and 3. -/
def Arbiter.reset : Arbiter := { lastGranted := .sweep, lastServed := 3 }

/-! ## Search unit (chapter 5) -/

/-- The owner of a search context: LOCAL, or a trunk context (R86). -/
inductive SearchOwner where
  | loc
  | trunk (context : Fin 6)
  deriving DecidableEq, Repr

/-- Why a search stopped (R88). -/
inductive EndCode where
  | complete | filled | cancelled
  deriving DecidableEq, Repr

/-- The fields of a RUNNING or DONE search context (R86). `start` and `cursor` are slot positions; a cursor of 256 says
that no slot is left. -/
structure Search where
  owner : SearchOwner
  burst : Bool
  pattern : List Byte
  mask : Half
  exact : Bool
  classFilter : Option Byte
  includeStale : Bool
  start : Nat
  cursor : Nat
  limit : Nat
  results : List Handle
  deriving DecidableEq, Repr

/-- A search context; an IDLE one holds no values (R86, R87). -/
inductive SearchContext where
  | idle
  | running (search : Search)
  | done (code : EndCode) (search : Search)
  deriving DecidableEq, Repr

/-! ## Time base (chapter 3) -/

/-- The time base (3.1). `tenMsDue` and `secondDue` are the model's own: a tick has been produced and its row has not yet
handed it on (log 3). So is `idleTicks`: how many milliseconds have ended on an empty queue (log 23). -/
structure TimeBase where
  dividerCount : Nat
  dividerInForce : Nat
  tenMsCount : Nat
  secondCount : Nat
  owed : Nat
  tenMsDue : Bool
  secondDue : Bool
  idleTicks : Nat
  deriving DecidableEq, Repr

/-- R59: counts 0, the default divider in force, nothing owed. -/
def TimeBase.reset : TimeBase :=
  { dividerCount := 0, dividerInForce := 7999, tenMsCount := 0, secondCount := 0, owed := 0,
    tenMsDue := false, secondDue := false, idleTicks := 0 }

/-! ## Trunk link (chapter 6) -/

/-- The states of the link (R109). -/
inductive LinkState where
  | idle | busy | fault
  deriving DecidableEq, Repr

/-- The rate of a sent frame: 100 or 400 kbit/s (R118, R158). -/
inductive LinkSpeed where
  | kbit100 | kbit400
  deriving DecidableEq, Repr

/-- The byte of a claimed frame that the receiver expects next (R116): `payload left` with `left` bytes still to come,
`complete` after an acknowledged check. -/
inductive FramePart where
  | source | kind | tag | length
  | payload (left : Nat)
  | check | complete
  deriving DecidableEq, Repr

/-- The receiver (R115, R116): waiting for a START; at the destination byte; in a frame that claimed a trunk context;
ignoring the rest of the frame up to the next RESTART or STOP. -/
inductive Receiver where
  | waiting
  | destination
  | frame (context : Fin 6) (part : FramePart)
  | ignoring
  deriving DecidableEq, Repr

/-- A reply being sent: its trunk context and how many of its bytes have been acknowledged (R118, R121). -/
structure Transmission where
  context : Fin 6
  sent : Nat
  deriving DecidableEq, Repr

/-- The trunk link. `afterLoad` says that the START or RESTART of the frame came after load end (R115, condition 3).
`ackLow` is the part's drive of TKD in the acknowledge bit of the last byte (R108). `bothHigh` is the model's own: the
millisecond just ended found both lines high throughout, in FAULT (R112; log 3). -/
structure Link where
  state : LinkState
  tkcLow : Nat
  tkdLow : Nat
  latchedDir : Option Byte
  latchedSpeed : Option LinkSpeed
  afterLoad : Bool
  receiver : Receiver
  crc : Byte
  transmitter : Option Transmission
  ackLow : Bool
  bothHigh : Bool
  deriving DecidableEq, Repr

/-- R122, full reset: IDLE, low runs 0, waiting for START, not sending, nothing latched. -/
def Link.reset : Link :=
  { state := .idle, tkcLow := 0, tkdLow := 0, latchedDir := none, latchedSpeed := none, afterLoad := false,
    receiver := .waiting, crc := 0, transmitter := none, ackLow := false, bothHigh := false }

/-! ## Trunk request unit (chapter 7) -/

/-- The states of a trunk context (R124). -/
inductive TrunkState where
  | idle | receiving | received | serving | awaitingHost | replyReady | sending
  deriving DecidableEq, Repr

/-- An item of a result set (R123, R132). -/
structure Item where
  handle : Handle
  reach : Option Byte
  cls : Byte
  visibility : Visibility
  guarded : Bool
  deriving DecidableEq, Repr

/-- A reply: its kind, its result code, and the payload bytes after the code (R123, R129, 12.2). -/
structure Reply where
  kind : Byte
  code : ResultCode
  body : List Byte
  deriving DecidableEq, Repr

/-- A trunk context, with the fields of R123 in its order; a field without a value is `none` or empty. -/
structure TrunkContext where
  state : TrunkState
  ticket : Byte
  requester : Option Byte
  kind : Option Byte
  tag : Option Byte
  length : Option Nat
  payload : List Byte
  linked : Option (Fin 4)
  results : List Item
  nextCursor : Option Nat
  deadline : Option Nat
  reply : Option Reply
  deriving DecidableEq, Repr

/-- An IDLE context holds its ticket and no other value (R123). -/
def TrunkContext.idleWith (ticket : Byte) : TrunkContext :=
  { state := .idle, ticket := ticket, requester := none, kind := none, tag := none, length := none, payload := [],
    linked := none, results := [], nextCursor := none, deadline := none, reply := none }

/-- The trunk request unit: six contexts, the received queue and the ready queue (R123, R126, R127). -/
structure TrunkUnit where
  contexts : Vector TrunkContext 6
  received : List (Fin 6)
  ready : List (Fin 6)
  deriving DecidableEq, Repr

/-- R143: every context IDLE with ticket 0, both queues empty. -/
def TrunkUnit.reset : TrunkUnit :=
  { contexts := Vector.replicate 6 (TrunkContext.idleWith 0), received := [], ready := [] }

/-! ## Host port (chapter 8) -/

/-- The states of a command slot (8.2). -/
inductive SlotState where
  | empty | posted | done
  deriving DecidableEq, Repr

/-- A command slot: its state, which CONTROL/STATE reads, and its 48 bytes (12.3). Offset 01h and the spare offsets
2Bh to 2Fh of `bytes` are never written. -/
structure CommandSlot where
  state : SlotState
  bytes : Vector Byte 48
  deriving DecidableEq, Repr

/-- An EMPTY slot with every byte 00h (R153, R160). -/
def CommandSlot.cleared : CommandSlot := { state := .empty, bytes := Vector.replicate 48 0 }

/-- A serial transaction in progress (R144, R145): its opcode and its current address once their bytes are complete, the
bits gathered of the byte under way, the bytes left of a group captured whole, and the bits that HSDO has still to shift
out, the one on the pin first. -/
structure Transaction where
  opcode : Option Byte
  address : Option Byte
  gathered : List Bool
  held : List Byte
  shifting : List Bool
  deriving DecidableEq, Repr

/-- R144: a transaction as it begins; HSDO shifts out 00h during the opcode byte. -/
def Transaction.begun : Transaction :=
  { opcode := none, address := none, gathered := [], held := [], shifting := List.replicate 8 false }

/-- The host port: the four slots, the post-order queue, whether HRST is low, and the transaction in progress (R144, R147,
R150). -/
structure HostPort where
  slots : Vector CommandSlot 4
  postOrder : List (Fin 4)
  hrstLow : Bool
  transaction : Option Transaction
  deriving DecidableEq, Repr

/-- R160: slots EMPTY, queue empty; R147: no transaction. HRST high is the model's choice (log 1). -/
def HostPort.reset : HostPort :=
  { slots := Vector.replicate 4 CommandSlot.cleared, postOrder := [], hrstLow := false, transaction := none }

/-! ## Notification unit (chapter 9) -/

/-- FLAGS, ENABLES and TRUNK CAUSE (R168 to R171, 12.1). -/
structure Notify where
  flags : Byte
  enables : Byte
  cause : Byte
  deriving DecidableEq, Repr

/-- R172: all clear. -/
def Notify.reset : Notify := { flags := 0, enables := 0, cause := 0 }

/-! ## Doze control (chapter 10) -/

/-- The host state (R174). -/
inductive HostState where
  | awake | doze
  deriving DecidableEq, Repr

/-- The wake record: a MARK record has no requester and no ticket (R179). -/
inductive WakeRecord where
  | seek (handle : Handle) (requester : Byte) (ticket : Byte)
  | mark (handle : Handle)
  deriving DecidableEq, Repr

/-- Doze control: host state, wake enable, wake record held or not (chapter 10). -/
structure Doze where
  host : HostState
  wakeEnable : Bool
  record : Option WakeRecord
  deriving DecidableEq, Repr

/-- R184. -/
def Doze.reset : Doze := { host := .doze, wakeEnable := false, record := none }

/-! ## Parameters (R158) -/

/-- The nine parameters, in image order (12.5). Times are in the units of R158. -/
structure Params where
  dirAddress : Byte
  linkSpeed : LinkSpeed
  leaseMin : Nat
  leaseMax : Nat
  grace : Nat
  lockMax : Nat
  fwdDeadline : Nat
  msDivider : Nat
  trunkWatch : Bool
  trunkWake : Bool
  deriving DecidableEq, Repr

/-- The defaults of R158. -/
def Params.defaults : Params :=
  { dirAddress := 112, linkSpeed := .kbit100, leaseMin := 10, leaseMax := 3600, grace := 30, lockMax := 60,
    fwdDeadline := 50, msDivider := 7999, trunkWatch := false, trunkWake := false }

/-! ## Configuration loader (chapter 11) -/

/-- The load outcome (R195). -/
inductive LoadOutcome where
  | none_ | absent | rejected | loaded
  deriving DecidableEq, Repr

/-- A preset of an image, as its bytes give it (12.5). -/
structure Preset where
  tag : List Byte
  cls : Byte
  reach : Byte
  visibility : Byte
  flags : Byte
  attrs : List Attr
  deriving DecidableEq, Repr

/-- Where the loader is: RESET low; the transfer of R187 running; the image judged, with the outcome found, the
parameter set of R190, the presets still to judge and those made and skipped so far; load ended. -/
inductive LoadPhase where
  | held
  | reading
  | judged (outcome : LoadOutcome) (set : Params) (left : List Preset) (made skipped : Nat)
  | ended
  deriving DecidableEq, Repr

/-- The loader: its phase, and the outcome and counts the window shows (R195). -/
structure Loader where
  phase : LoadPhase
  outcome : LoadOutcome
  presetsLoaded : Nat
  presetsSkipped : Nat
  deriving DecidableEq, Repr

/-- R186: held, outcome none, both counts 0. -/
def Loader.reset : Loader := { phase := .held, outcome := .none_, presetsLoaded := 0, presetsSkipped := 0 }

end Sys2Proof.Machine
end

