-- ==== Sys2Proof/Machine/State.lean ====
section
/-! DEFINITION. The state of the part: its blocks, and the queue of commands that wait. Plain data; every value that the
manual defines from others (state counts, MARKS_PENDING, LOADING, IRQ, WAKE) is a function of it (log 10). -/

namespace Sys2Proof.Machine

/-- Why the machine stops with a fault: never. The manual names no condition on which the part stops; the trunk FAULT is
a state of its link (R111), and a refused operation ends with a result code (R52). -/
inductive Fault where
  deriving DecidableEq, Repr

/-- Why a command has no meaning. -/
inductive Refusal where
  /-- Raised by exec's arm of a row that has no meaning yet. Safe: the model stops. No arm answers it. -/
  | notModelled (mnemonic : String)
  deriving DecidableEq, Repr

/-- The state of the part. -/
structure State where
  /-- The commands that wait, first in, first out. -/
  pending : List Instr
  /-- Slots, free list, collect cursor (chapter 1). -/
  dir : Directory
  /-- Last-granted class, last-served search context (R27, R28). -/
  arb : Arbiter
  /-- The four search contexts (R86). -/
  search : Vector SearchContext 4
  /-- The time base (chapter 3). -/
  time : TimeBase
  /-- The trunk link (chapter 6). -/
  link : Link
  /-- The trunk contexts and their queues (chapter 7). -/
  trunk : TrunkUnit
  /-- The command slots and the post-order queue (chapter 8). -/
  port : HostPort
  /-- Flags, enables, causes (chapter 9). -/
  notify : Notify
  /-- Host state, wake enable, wake record (chapter 10). -/
  doze : Doze
  /-- The configuration loader (chapter 11). -/
  loader : Loader
  /-- The nine parameters in force (R158). -/
  params : Params
  deriving DecidableEq, Repr

/-- The machine right after reset: RESET low, every block "held at the state its own chapter gives for full reset"
(R186; log 1). -/
def State.reset : State :=
  { pending := [], dir := Directory.reset, arb := Arbiter.reset, search := Vector.replicate 4 .idle,
    time := TimeBase.reset, link := Link.reset, trunk := TrunkUnit.reset, port := HostPort.reset,
    notify := Notify.reset, doze := Doze.reset, loader := Loader.reset, params := Params.defaults }

end Sys2Proof.Machine
end

