-- ==== Sys2Proof/Machine/Operands.lean ====
section
/-! DEFINITION. How values are laid out in bytes: the encodings of 12.1, the fields of a command slot (12.3), request and
reply payloads and frames (12.2, R113, R114, R128). Multi-byte fields are most significant byte first (5.2). -/

namespace Sys2Proof.Machine

/-! ## 16-bit fields and handles -/

/-- The first byte of a 16-bit field. -/
def hiByte (h : Half) : Byte := BitVec.ofNat 8 (h.toNat / 256)

/-- The second byte of a 16-bit field. -/
def loByte (h : Half) : Byte := BitVec.ofNat 8 h.toNat

/-- The 16-bit field of two bytes, most significant first. -/
def half (hi lo : Byte) : Half := BitVec.ofNat 16 (hi.toNat * 256 + lo.toNat)

/-- The two bytes of a 16-bit field. -/
def halfBytes (h : Half) : List Byte := [hiByte h, loByte h]

/-- The two bytes of a count that a 16-bit field carries. -/
def countBytes (n : Nat) : List Byte := halfBytes (BitVec.ofNat 16 n)

/-- R5: generation × 256 + slot. -/
def mkHandle (generation : Byte) (slot : SlotNo) : Handle := BitVec.ofNat 16 (generation.toNat * 256 + slot.val)

/-- The slot a handle names: its low byte (R5). -/
def handleSlot (h : Handle) : SlotNo := ⟨h.toNat % 256, Nat.mod_lt _ (by decide)⟩

/-- The generation a handle names: its high byte (R5). -/
def handleGeneration (h : Handle) : Byte := hiByte h

/-- The null handle 0.0 (5.5). -/
def nullHandle : Handle := 0

/-! ## Whole-byte encodings (12.1) -/

/-- A node address: 1 to 111 (R113). -/
def isNode (b : Byte) : Bool := decide (1 ≤ b.toNat) && decide (b.toNat ≤ 111)

/-- Result codes. -/
def ResultCode.toByte : ResultCode → Byte
  | .ok => 0x01 | .none_ => 0x02 | .full => 0x03 | .duplicate => 0x04 | .unknown => 0x05 | .notOwner => 0x06
  | .notHolder => 0x07 | .locked => 0x08 | .inactive => 0x09 | .badParam => 0x0A | .attrFull => 0x0B
  | .noAttr => 0x0C | .busy => 0x0D | .denied => 0x0E | .deferred => 0x0F | .partial_ => 0x10
  | .tooLate => 0x11 | .aborted => 0x12

/-- Visibility: any other value is out of range (R12, R196). -/
def visibilityOf (b : Byte) : Option Visibility :=
  if b = 0x00 then some .open_ else if b = 0x01 then some .guarded else if b = 0x02 then some .closed else none

def Visibility.toByte : Visibility → Byte
  | .open_ => 0x00 | .guarded => 0x01 | .closed => 0x02

/-- A reach address field: 0 is absent, 1 to 111 a node, any other value out of range (R11). -/
def reachOf (b : Byte) : Option (Option Byte) :=
  if b = 0x00 then some none else if isNode b then some (some b) else none

/-- An absent reach address is written 0 (R11). -/
def reachByte (r : Option Byte) : Byte := r.getD 0x00

/-- Entry state, as READ and COLLECT return it. -/
def Life.toByte : Life → Byte
  | .live _ => 0x01 | .stale _ => 0x02 | .spent => 0x03

/-- The origin, in the encoding of the PURGE selector values (R156). -/
def Origin.toByte : Origin → Byte
  | .loc => 0x01 | .trunk _ => 0x02

/-- The owner node, or 0 for a LOCAL entry (R48). -/
def Origin.ownerByte : Origin → Byte
  | .loc => 0x00 | .trunk n => n

/-- A holder or requester: LOCAL 0, a node its address (5.4). -/
def Party.toByte : Party → Byte
  | .loc => 0x00 | .node n => n

/-- "no holder" is FFh (5.4). -/
def holderByte (l : Option Lock) : Byte :=
  match l with
  | none => 0xFF
  | some k => k.holder.toByte

/-- The lapse remaining, or 0 with no lock (R48). -/
def lapseByte (l : Option Lock) : Byte :=
  match l with
  | none => 0x00
  | some k => BitVec.ofNat 8 k.lapse

/-- ENTRY FLAGS: WATCH bit 0, WAKE bit 1. -/
def entryFlagsByte (watch wake : Bool) : Byte := BitVec.ofNat 8 (watch.toNat + 2 * wake.toNat)

/-- MARKS: CREATED bit 0 up to LOCK_LAPSED bit 5. -/
def Marks.toByte (m : Marks) : Byte :=
  BitVec.ofNat 8 (m.created.toNat + 2 * m.changed.toNat + 4 * m.stale.toNat + 8 * m.revived.toNat
    + 16 * m.retired.toNat + 32 * m.lockLapsed.toNat)

/-- The PURGE selector: the origins it selects (R51); any other value is out of range. -/
def selects (b : Byte) : Option (Origin → Bool) :=
  if b = 0x01 then some (fun o => match o with | .loc => true | .trunk _ => false)
  else if b = 0x02 then some (fun o => match o with | .loc => false | .trunk _ => true)
  else if b = 0x03 then some (fun _ => true)
  else none

/-- The owner of a search context, as RESULTS returns it. -/
def SearchContext.ownerByte : SearchContext → Byte
  | .idle => 0xFF
  | .running r | .done _ r =>
    match r.owner with
    | .loc => 0x00
    | .trunk c => BitVec.ofNat 8 (0x80 + c.val)

/-- The state of a search context, combined with its end code (R157). -/
def SearchContext.stateByte : SearchContext → Byte
  | .idle => 0x00
  | .running _ => 0x01
  | .done .complete _ => 0x02
  | .done .filled _ => 0x03
  | .done .cancelled _ => 0x04

/-- The state of a trunk context, as READ_FORWARD returns it. -/
def TrunkState.toByte : TrunkState → Byte
  | .idle => 0x00 | .receiving => 0x01 | .received => 0x02 | .serving => 0x03 | .awaitingHost => 0x04
  | .replyReady => 0x05 | .sending => 0x06

/-- CONTROL/STATE as read. -/
def SlotState.toByte : SlotState → Byte
  | .empty => 0x00 | .posted => 0x01 | .done => 0x02

/-- The load outcome. -/
def LoadOutcome.toByte : LoadOutcome → Byte
  | .none_ => 0x00 | .absent => 0x01 | .rejected => 0x02 | .loaded => 0x03

/-- The LINK_SPEED byte of the image and of the window copy. -/
def LinkSpeed.toByte : LinkSpeed → Byte
  | .kbit100 => 0x01 | .kbit400 => 0x04

/-- LINK_SPEED as the number SET_PARAM carries. -/
def LinkSpeed.toNat : LinkSpeed → Nat
  | .kbit100 => 100 | .kbit400 => 400

/-! ## Fields of a command slot (12.3) -/

/-- The byte at an offset of a slot. -/
def CommandSlot.byte (c : CommandSlot) (o : Fin 48) : Byte := c.bytes[o]

/-- The slot with one byte replaced. -/
def CommandSlot.setByte (c : CommandSlot) (o : Fin 48) (v : Byte) : CommandSlot := { c with bytes := c.bytes.set o v }

/-- The 16-bit field at an offset. -/
def CommandSlot.half (c : CommandSlot) (o : Fin 48) : Half := Machine.half (c.byte o) (c.byte (o + 1))

/-- The slot with bytes written at offsets, in order. -/
def CommandSlot.write (c : CommandSlot) (outputs : List (Fin 48 × Byte)) : CommandSlot :=
  outputs.foldl (fun c p => c.setByte p.1 p.2) c

/-- A 16-bit output at an offset. -/
def halfAt (o : Fin 48) (h : Half) : List (Fin 48 × Byte) := [(o, hiByte h), (o + 1, loByte h)]

namespace Offset
def code : Fin 48 := 0x00
def control : Fin 48 := 0x01
def result : Fin 48 := 0x02
def options : Fin 48 := 0x03
def handle : Fin 48 := 0x04
def tagLength : Fin 48 := 0x06
def data : Fin 48 := 0x07
def mask : Fin 48 := 0x17
def cls : Fin 48 := 0x19
def reach : Fin 48 := 0x1A
def visibility : Fin 48 := 0x1B
def entryFlags : Fin 48 := 0x1C
def lease : Fin 48 := 0x1D
def state : Fin 48 := 0x1F
def holder : Fin 48 := 0x20
def hold : Fin 48 := 0x21
def owner : Fin 48 := 0x22
def index : Fin 48 := 0x23
def value : Fin 48 := 0x24
def start : Fin 48 := 0x25
def marks : Fin 48 := 0x26
def ticket : Fin 48 := 0x27
def allow : Fin 48 := 0x28
def selector : Fin 48 := 0x29
def grace : Fin 48 := 0x2A
/-- The first of the five spare bytes. -/
def spare : Fin 48 := 0x2B
end Offset

/-- The offset of byte `k` of TAG/PATTERN/DATA. -/
def dataOffset (k : Fin 16) : Fin 48 := ⟨7 + k.val, by omega⟩

/-- The first `n` bytes of TAG/PATTERN/DATA; bytes beyond are not read (R154). -/
def CommandSlot.dataBytes (c : CommandSlot) (n : Nat) : List Byte :=
  ((List.finRange 16).map (fun k => c.byte (dataOffset k))).take n

/-- TAG/PATTERN/DATA as an output: the bytes given, 00h beyond them (R155). -/
def dataOutputs (bytes : List Byte) : List (Fin 48 × Byte) :=
  (List.finRange 16).map (fun k => (dataOffset k, bytes.getD k.val 0x00))

/-- OPTIONS: FORCE bit 0, EXACT bit 1, INCLUDE_STALE bit 2, BURST bit 3, CLASS_PRESENT bit 4. -/
def CommandSlot.option (c : CommandSlot) (bit : Nat) : Bool := (c.byte Offset.options).getLsbD bit

def CommandSlot.force (c : CommandSlot) : Bool := c.option 0

/-! ## Trunk requests (R128, 12.2) -/

/-- A well-formed request, with the fields of its kind. -/
inductive Request where
  | announce (tag : List Byte) (cls visibility : Byte) (lease : Half)
  | refresh (handle : Handle)
  | withdraw (handle : Handle)
  | seek (start options cls : Byte) (pattern : List Byte) (mask : Half)
  | fetch (handle : Handle)
  | postAttr (handle : Handle) (id : Byte) (value : Half)
  | dropAttr (handle : Handle) (id : Byte)
  | claim (handle : Handle) (hold : Byte)
  | yield (handle : Handle)
  deriving DecidableEq, Repr

/-- A payload that is a handle alone. -/
def parseHandle (make : Handle → Request) (payload : List Byte) : Option Request :=
  match payload with
  | [a, b] => some (make (half a b))
  | _ => none

/-- ANNOUNCE: tag length t, tag, class, visibility, lease; 5 + t bytes. -/
def parseAnnounce (payload : List Byte) : Option Request :=
  match payload with
  | [] => none
  | t :: rest =>
    match rest.drop t.toNat with
    | [cls, visibility, a, b] => some (.announce (rest.take t.toNat) cls visibility (half a b))
    | _ => none

/-- SEEK: start slot, options, class, pattern length p, pattern, mask; 6 + p bytes. -/
def parseSeek (payload : List Byte) : Option Request :=
  match payload with
  | start :: options :: cls :: p :: rest =>
    match rest.drop p.toNat with
    | [a, b] => some (.seek start options cls (rest.take p.toNat) (half a b))
    | _ => none
  | _ => none

/-- POST_ATTR: handle, id, value. -/
def parsePostAttr (payload : List Byte) : Option Request :=
  match payload with
  | [a, b, id, c, d] => some (.postAttr (half a b) id (half c d))
  | _ => none

/-- DROP_ATTR: handle, id. -/
def parseDropAttr (payload : List Byte) : Option Request :=
  match payload with
  | [a, b, id] => some (.dropAttr (half a b) id)
  | _ => none

/-- CLAIM: handle, hold. -/
def parseClaim (payload : List Byte) : Option Request :=
  match payload with
  | [a, b, hold] => some (.claim (half a b) hold)
  | _ => none

/-- R128: the request a kind and a payload spell; none for an unknown kind or a payload of another length. -/
def parseRequest (kind : Byte) (payload : List Byte) : Option Request :=
  if kind = 0x01 then parseAnnounce payload
  else if kind = 0x02 then parseHandle .refresh payload
  else if kind = 0x03 then parseHandle .withdraw payload
  else if kind = 0x04 then parseSeek payload
  else if kind = 0x05 then parseHandle .fetch payload
  else if kind = 0x06 then parsePostAttr payload
  else if kind = 0x07 then parseDropAttr payload
  else if kind = 0x08 then parseClaim payload
  else if kind = 0x09 then parseHandle .yield payload
  else none

/-! ## Frames and their check (R113, R114) -/

/-- One shift of the CRC register: left by one bit, combined with 07h when a 1 was shifted out. -/
def crcShift (r : Byte) : Byte := if r.getLsbD 7 then (r <<< 1) ^^^ 0x07#8 else r <<< 1

/-- R114: a byte is combined with the register, which is then shifted eight times. -/
def crcByte (r b : Byte) : Byte := Nat.repeat crcShift 8 (r ^^^ b)

/-- The check byte over the bytes of a frame; the register starts at 00h. -/
def crc (bytes : List Byte) : Byte := bytes.foldl crcByte 0x00

/-- The payload of a reply: the code, then the bytes after it (12.2). -/
def Reply.payload (r : Reply) : List Byte := r.code.toByte :: r.body

/-- R118: the bytes of a reply frame, from the destination to the check. -/
def replyFrame (destination source tag : Byte) (r : Reply) : List Byte :=
  let bytes := [destination, source, r.kind, tag, BitVec.ofNat 8 r.payload.length] ++ r.payload
  bytes ++ [crc bytes]

/-- A SEEK reply (R140): next cursor, count, and for each result its handle, reach address and class. -/
def seekReply (code : ResultCode) (next : Nat) (items : List Item) : Reply :=
  { kind := 0x84, code := code,
    body := countBytes next ++ [BitVec.ofNat 8 items.length]
      ++ items.flatMap (fun i => halfBytes i.handle ++ [reachByte i.reach, i.cls]) }

end Sys2Proof.Machine
end

