-- ==== Sys2Proof/Machine/Flags.lean ====
section
/-! DEFINITION. The notification unit and doze control: setting and clearing flags and causes (R168 to R170), capture of a
wake event (R178, R179), the IRQ and WAKE outputs (R171, R183). -/

namespace Sys2Proof.Machine

/-- The eight flags (R168). -/
inductive Flag where
  | cmd | srch | mark | fwd | trunk | wake | load | slip
  deriving DecidableEq, Repr

/-- The position of a flag in FLAGS and of its enable in ENABLES (12.1). -/
def Flag.bit : Flag → Nat
  | .cmd => 0 | .srch => 1 | .mark => 2 | .fwd => 3 | .trunk => 4 | .wake => 5 | .load => 6 | .slip => 7

/-- A byte with one bit set. -/
def bitMask (k : Nat) : Byte := 1#8 <<< k

/-- Whether a flag is set. -/
def State.flag (s : State) (f : Flag) : Bool := s.notify.flags.getLsbD f.bit

/-- Whether a flag's enable is set (R171). -/
def State.enabled (s : State) (f : Flag) : Bool := s.notify.enables.getLsbD f.bit

/-- R168: a set event leaves the flag set, whatever it was. -/
def setFlag (f : Flag) (s : State) : State :=
  { s with notify := { s.notify with flags := s.notify.flags ||| bitMask f.bit } }

/-- The two causes of TRUNK, STUCK bit 0 and UNDELIVERED bit 1 (R170). -/
inductive Cause where
  | stuck | undelivered
  deriving DecidableEq, Repr

def Cause.bit : Cause → Nat
  | .stuck => 0 | .undelivered => 1

/-- Whether a cause is set. -/
def State.cause (s : State) (c : Cause) : Bool := s.notify.cause.getLsbD c.bit

/-- R170: the cause and TRUNK are set in the one event. -/
def setTrunkCause (c : Cause) (s : State) : State :=
  { s with notify := { s.notify with
      flags := s.notify.flags ||| bitMask Flag.trunk.bit, cause := s.notify.cause ||| bitMask c.bit } }

/-- Write 1 to clear: each bit written 1 is cleared, each bit written 0 left (R146). -/
def clearOnes (held written : Byte) : Byte := held &&& ~~~ written

/-- R169, R181: a write to FLAGS; clearing WAKE discards the wake record. -/
def writeFlags (v : Byte) (s : State) : State :=
  { s with
    notify := { s.notify with flags := clearOnes s.notify.flags v }
    doze := if v.getLsbD Flag.wake.bit then { s.doze with record := none } else s.doze }

/-- R170: a write to TRUNK CAUSE. -/
def writeCause (v : Byte) (s : State) : State :=
  { s with notify := { s.notify with cause := clearOnes s.notify.cause v } }

/-- R171: a write to ENABLES stores the byte. -/
def writeEnables (v : Byte) (s : State) : State :=
  { s with notify := { s.notify with enables := v } }

/-- R178, R179: a wake event is captured when wake enable is set and no record is held; WAKE is set with it. -/
def wakeEvent (r : WakeRecord) (s : State) : State :=
  if s.doze.wakeEnable = true ∧ s.doze.record = none then
    setFlag .wake { s with doze := { s.doze with record := some r } }
  else s

/-- RESET is low exactly in the loader's first phase (R186). -/
def State.resetLow (s : State) : Bool := decide (s.loader.phase = .held)

/-- R171: IRQ is asserted exactly when the host state is AWAKE and some flag and its enable are both set; while RESET or
HRST is low it is released. -/
def State.irq (s : State) : Bool :=
  !s.resetLow && !s.port.hrstLow && decide (s.doze.host = .awake)
    && decide (s.notify.flags &&& s.notify.enables ≠ 0)

/-- R183: WAKE is asserted exactly when a wake record is held and wake enable is set; while RESET or HRST is low it is
released. -/
def State.wakePin (s : State) : Bool :=
  !s.resetLow && !s.port.hrstLow && s.doze.wakeEnable && s.doze.record.isSome

/-- CFC and CFD are driven by the loader from LOAD_START to the end of its transfer; else released (R187, R195). -/
def State.configLineDriven (s : State) : Bool := decide (s.loader.phase = .reading)

end Sys2Proof.Machine
end

