-- ==== Sys2Proof/Machine/Ops.lean ====
section
/-! DEFINITION. The named operations the meanings share: access to slots and contexts; allocation, return and retirement
of entries; marks; the arbiter's decision and the two kinds of queued grant; replies. -/

namespace Sys2Proof.Machine

/-! ## One update for each block -/

def State.setDir (s : State) (d : Directory) : State := { s with dir := d }
def State.setArb (s : State) (a : Arbiter) : State := { s with arb := a }
def State.setTime (s : State) (t : TimeBase) : State := { s with time := t }
def State.setLink (s : State) (l : Link) : State := { s with link := l }
def State.setTrunk (s : State) (u : TrunkUnit) : State := { s with trunk := u }
def State.setPort (s : State) (p : HostPort) : State := { s with port := p }
def State.setDoze (s : State) (d : Doze) : State := { s with doze := d }
def State.setLoader (s : State) (l : Loader) : State := { s with loader := l }
def State.setParams (s : State) (p : Params) : State := { s with params := p }

/-! ## Slots of the directory -/

/-- Slot `i`. -/
def State.slot (s : State) (i : SlotNo) : Slot := s.dir.slots[i]

/-- The entry in slot `i`, none when the slot is FREE. -/
def State.entryOf (s : State) (i : SlotNo) : Option Entry := (s.slot i).entry

/-- The handle that names slot `i` now: its generation × 256 + slot (R5). -/
def State.handleOf (s : State) (i : SlotNo) : Handle := mkHandle (s.slot i).generation i

/-- Slot `i` replaced. -/
def State.setSlot (s : State) (i : SlotNo) (x : Slot) : State :=
  s.setDir { s.dir with slots := s.dir.slots.set i x }

/-- The record in slot `i` replaced; the generation is kept (R4). -/
def State.setEntry (s : State) (i : SlotNo) (e : Entry) : State :=
  s.setSlot i { s.slot i with entry := some e }

/-- R5: the slot and the entry a handle names, if it is valid: its generation is the slot's and the slot is not FREE. -/
def State.lookup (s : State) (h : Handle) : Option (SlotNo × Entry) :=
  if (s.slot (handleSlot h)).generation = handleGeneration h then
    (s.entryOf (handleSlot h)).map (fun e => (handleSlot h, e))
  else none

def Life.isLive : Life → Bool
  | .live _ => true | .stale _ => false | .spent => false

def Life.isStale : Life → Bool
  | .live _ => false | .stale _ => true | .spent => false

def Life.isSpent : Life → Bool
  | .live _ => false | .stale _ => false | .spent => true

/-- LIVE and STALE entries count for tag equality (R2, R9). -/
def Entry.countsForTag (e : Entry) : Bool := !e.life.isSpent

/-- R9, R34: the LIVE or STALE entry with this tag. -/
def State.findTag (s : State) (tag : List Byte) : Option (SlotNo × Entry) :=
  allSlots.findSome? (fun i =>
    match s.entryOf i with
    | some e => if e.countsForTag = true ∧ e.tag = tag then some (i, e) else none
    | none => none)

/-- R23: how many slots are FREE; how many hold an entry whose state is as asked. -/
def State.freeCount (s : State) : Nat := allSlots.countP (fun i => (s.entryOf i).isNone)

def State.lifeCount (s : State) (is : Life → Bool) : Nat :=
  allSlots.countP (fun i =>
    match s.entryOf i with
    | some e => is e.life
    | none => false)

def State.liveCount (s : State) : Nat := s.lifeCount Life.isLive
def State.staleCount (s : State) : Nat := s.lifeCount Life.isStale
def State.spentCount (s : State) : Nat := s.lifeCount Life.isSpent

/-! ## Allocation and return (R4, R20 to R22) -/

/-- R4: 0 to 1, n to n + 1, 255 to 1. -/
def nextGeneration (g : Byte) : Byte := if g = 0xFF then 0x01 else g + 1

/-- R21: the head of the free list becomes this entry, its generation advanced; none when the list is empty. -/
def allocate (e : Entry) (s : State) : Option (State × SlotNo) :=
  match s.dir.free with
  | [] => none
  | i :: rest =>
    some (s.setDir { s.dir with
      slots := s.dir.slots.set i { generation := nextGeneration (s.slot i).generation, entry := some e },
      free := rest }, i)

/-- R22: slot `i` loses every field but its generation and joins the tail of the free list. -/
def freeSlot (i : SlotNo) (s : State) : State :=
  s.setDir { s.dir with
    slots := s.dir.slots.set i { s.slot i with entry := none },
    free := s.dir.free ++ [i] }

/-! ## Marks (R18, R161, R162) -/

def Marks.has (m : Marks) : Mark → Bool
  | .created => m.created | .changed => m.changed | .stale => m.stale
  | .revived => m.revived | .retired => m.retired | .lockLapsed => m.lockLapsed

def Marks.add (m : Marks) : Mark → Marks
  | .created => { m with created := true } | .changed => { m with changed := true }
  | .stale => { m with stale := true } | .revived => { m with revived := true }
  | .retired => { m with retired := true } | .lockLapsed => { m with lockLapsed := true }

/-- The empty set of marks. -/
def Marks.none_ : Marks := {}

/-- R161, R162: the reason is added to the entry in slot `i` if its WATCH flag is on. A reason not held before is a new
mark: it sets MARK, and on an entry with WAKE on, in DOZE, it is a wake event. -/
def addMark (i : SlotNo) (m : Mark) (s : State) : State :=
  match s.entryOf i with
  | none => s
  | some e =>
    if e.watch = true ∧ e.marks.has m = false then
      let s := setFlag .mark (s.setEntry i { e with marks := e.marks.add m })
      if e.wake = true ∧ s.doze.host = .doze then wakeEvent (.mark (s.handleOf i)) s else s
    else s

/-- R163: MARKS_PENDING, while some slot's marks set is not empty. -/
def State.marksPending (s : State) : Bool :=
  allSlots.any (fun i =>
    match s.entryOf i with
    | some e => decide (e.marks ≠ Marks.none_)
    | none => false)

/-! ## Leases and retirement -/

/-- LIVE with the lease remaining at the lease length, or without one (R14). -/
def Entry.restarted (e : Entry) : Entry := { e with life := .live e.leaseLength }

/-- R45: a trunk-side or time-driven retirement of the entry `e` in slot `i`. -/
def retireSide (i : SlotNo) (e : Entry) (s : State) : State :=
  if e.watch = true then addMark i .retired (s.setEntry i { e with lock := none, life := .spent })
  else freeSlot i s

/-! ## Checks that operations share (R30, R31) -/

/-- R12: a CLOSED entry is not there for a trunk requester. -/
def closedTo (who : Party) (e : Entry) : Bool :=
  match who with
  | .loc => false
  | .node _ => decide (e.visibility = .closed)

/-- R7: LOCAL acts on every entry; a node only on the entry it owns. -/
def ownedBy (who : Party) (e : Entry) : Bool :=
  match who with
  | .loc => true
  | .node n => decide (e.origin = .trunk n)

/-- R31: a lock held by another bars the change, unless LOCAL gives FORCE. -/
def lockBars (who : Party) (force : Bool) (e : Entry) : Bool :=
  match e.lock with
  | none => false
  | some k => decide (k.holder ≠ who) && !(decide (who = .loc) && force)

/-! ## Contexts and command slots -/

def State.context (s : State) (c : Fin 6) : TrunkContext := s.trunk.contexts[c]

def State.setContext (s : State) (c : Fin 6) (t : TrunkContext) : State :=
  s.setTrunk { s.trunk with contexts := s.trunk.contexts.set c t }

def State.searchContext (s : State) (k : Fin 4) : SearchContext := s.search[k]

def State.setSearch (s : State) (k : Fin 4) (x : SearchContext) : State := { s with search := s.search.set k x }

def State.commandSlot (s : State) (n : Fin 4) : CommandSlot := s.port.slots[n]

def State.setCommandSlot (s : State) (n : Fin 4) (c : CommandSlot) : State :=
  s.setPort { s.port with slots := s.port.slots.set n c }

/-- The context returns to IDLE and loses every field but its ticket (R124). -/
def clearContext (c : Fin 6) (s : State) : State := s.setContext c (TrunkContext.idleWith (s.context c).ticket)

/-- The lowest-numbered IDLE trunk context (R115). -/
def State.idleContext (s : State) : Option (Fin 6) :=
  (List.finRange 6).find? (fun c => decide ((s.context c).state = .idle))

/-- The lowest-numbered IDLE search context (R91, R92). -/
def State.idleSearch (s : State) : Option (Fin 4) :=
  (List.finRange 4).find? (fun k => decide (s.searchContext k = .idle))

/-! ## The arbiter (R26 to R29) -/

def SearchContext.isRunning : SearchContext → Bool
  | .running _ => true | .idle => false | .done _ _ => false

/-- R26: when a class is pending. -/
def State.classPending (s : State) : GrantClass → Bool
  | .command => !s.port.postOrder.isEmpty
  | .trunk => !s.trunk.received.isEmpty
  | .search => (List.finRange 4).any (fun k => (s.searchContext k).isRunning)
  | .sweep => decide (0 < s.time.owed)

/-- R27: the cyclic order Command, Trunk, Search, Sweep, starting after a class. -/
def classesAfter : GrantClass → List GrantClass
  | .command => [.trunk, .search, .sweep, .command]
  | .trunk => [.search, .sweep, .command, .trunk]
  | .search => [.sweep, .command, .trunk, .search]
  | .sweep => [.command, .trunk, .search, .sweep]

/-- R194: the arbiter may grant from load end on. -/
def State.loadEnded (s : State) : Bool := decide (s.loader.phase = .ended)

/-- R27: the class the arbiter grants next, if any is pending. -/
def State.nextGrant (s : State) : Option GrantClass :=
  if s.loadEnded then (classesAfter s.arb.lastGranted).find? s.classPending else none

/-- R28: the contexts in the order that starts after the last-served one. -/
def contextsAfter (k : Fin 4) : List (Fin 4) := [k + 1, k + 2, k + 3, k]

/-- R28: the RUNNING context the next Search grant serves. -/
def State.nextSearch (s : State) : Option (Fin 4) :=
  (contextsAfter s.arb.lastServed).find? (fun k => (s.searchContext k).isRunning)

/-- R27: the class granted is recorded. -/
def recordGrant (g : GrantClass) (s : State) : State := s.setArb { s.arb with lastGranted := g }

/-! ## Command grants (R29, R151) -/

/-- What performing a command leaves: the rest of the part, the result code, and the output fields. -/
structure Completion where
  state : State
  code : ResultCode
  outputs : List (Fin 48 × Byte)

/-- The command slot a Command grant serves now, if the arbiter's next grant is one. -/
def State.commandHead (s : State) : Option (Fin 4) :=
  if s.nextGrant = some .command then s.port.postOrder.head? else none

/-- R27, R150: the grant is recorded and the head leaves the post-order queue. -/
def takeCommand (s : State) : State :=
  (recordGrant .command s).setPort { s.port with postOrder := s.port.postOrder.tail }

/-- R151: RESULT and the output fields are written, the slot becomes DONE, CMD is set. -/
def finishCommand (n : Fin 4) (r : Completion) : State :=
  setFlag .cmd (r.state.setCommandSlot n
    { ((r.state.commandSlot n).write r.outputs).setByte Offset.result r.code.toByte with state := .done })

/-- A Command grant of a slot whose CODE is accepted; where there is none, the event does not occur (log 2). -/
def commandGrant (accepts : Byte → Bool) (perform : CommandSlot → State → Completion) (s : State) : State :=
  match s.commandHead with
  | none => s
  | some n =>
    if accepts ((s.commandSlot n).byte Offset.code) then
      finishCommand n (perform (s.commandSlot n) (takeCommand s))
    else s

/-- A completion that changes nothing but the slot. -/
def answerOnly (s : State) (code : ResultCode) (outputs : List (Fin 48 × Byte)) : Completion :=
  { state := s, code := code, outputs := outputs }

/-! ## Trunk grants (R29, R128, R129) -/

/-- The trunk context a Trunk grant serves now, if the arbiter's next grant is one. -/
def State.trunkHead (s : State) : Option (Fin 6) :=
  if s.nextGrant = some .trunk then s.trunk.received.head? else none

/-- R27, R126: the grant is recorded and the head leaves the received queue. -/
def takeRequest (s : State) : State :=
  (recordGrant .trunk s).setTrunk { s.trunk with received := s.trunk.received.tail }

/-- The request a context holds (R128). -/
def TrunkContext.request (t : TrunkContext) : Option Request := parseRequest (t.kind.getD 0x00) t.payload

/-- The requester's address (R123). -/
def TrunkContext.node (t : TrunkContext) : Byte := t.requester.getD 0x00

/-- R127, R129: the reply is built in the context, which joins the tail of the ready queue. -/
def buildReply (c : Fin 6) (r : Reply) (s : State) : State :=
  let s := s.setContext c { s.context c with state := .replyReady, linked := none, deadline := none, reply := some r }
  s.setTrunk { s.trunk with ready := s.trunk.ready ++ [c] }

/-- A Trunk grant of a request that is selected; where there is none, the event does not occur (log 2). -/
def trunkGrant (select : Option Request → Option (Fin 6 → State → State)) (s : State) : State :=
  match s.trunkHead with
  | none => s
  | some c =>
    match select (s.context c).request with
    | none => s
    | some serve => serve c (takeRequest s)

/-! ## Forwarded seeks (R132 to R138) -/

/-- R132, R136: the entry that a result item names, if the item passes re-validation: the handle valid, the entry LIVE
and not CLOSED. -/
def revalidated (s : State) (h : Handle) : Option (SlotNo × Entry) :=
  match s.lookup h with
  | some (i, e) => if e.life.isLive = true ∧ e.visibility ≠ .closed then some (i, e) else none
  | none => none

/-- The wait of an AWAITING_HOST context ends without a grant: a reply with the open items of its result set, as
validated at SEEK end (R134, R137, R138). -/
def endWait (code : ResultCode) (c : Fin 6) (s : State) : State :=
  let t := s.context c
  buildReply c (seekReply code (t.nextCursor.getD 0) (t.results.filter (fun i => !i.guarded))) s

/-- Every context in a given condition, in ascending number, has its wait ended. -/
def endWaits (code : ResultCode) (ends : TrunkContext → Bool) (s : State) : State :=
  (List.finRange 6).foldl (fun s c => if ends (s.context c) then endWait code c s else s) s

/-- R137, R138: every AWAITING_HOST context is answered DEFERRED. -/
def answerDeferred (s : State) : State := endWaits .deferred (fun t => decide (t.state = .awaitingHost)) s

end Sys2Proof.Machine
end

