-- ==== Sys2Proof/Machine/Settle.lean ====
section
/-! DEFINITION. The millisecond tick and what it produces (R53 to R57, R110 to R112, R134). A tick's consequences are rows
of the table of their own. Each is due from the tick on, and comes before any other event: `settle` lets the due ones
happen (log 3). -/

namespace Sys2Proof.Machine

/-! ## The trunk fault and its release -/

/-- R110: a low run has reached 25 while the link is IDLE or BUSY. -/
def State.faultDue (s : State) : Bool :=
  decide (s.link.state ≠ .fault) && (decide (25 ≤ s.link.tkcLow) || decide (25 ≤ s.link.tkdLow))

/-- R106: the trunk-owned search contexts become IDLE. -/
def idleTrunkSearch : SearchContext → SearchContext
  | .idle => .idle
  | .running r => match r.owner with | .trunk _ => .idle | .loc => .running r
  | .done code r => match r.owner with | .trunk _ => .idle | .loc => .done code r

/-- R111, R142: the link enters FAULT. The lines are released; receiver and transmitter are abandoned; every trunk
context becomes IDLE and keeps its ticket; both queues are emptied; trunk-owned searches become IDLE; TRUNK is set with
STUCK. -/
def enterFault (s : State) : State :=
  setTrunkCause .stuck
    { s with
      link := { s.link with
        state := .fault, latchedDir := none, latchedSpeed := none, afterLoad := false, receiver := .waiting,
        crc := 0, transmitter := none, ackLow := false, bothHigh := false }
      trunk := { contexts := mapAll (fun t => TrunkContext.idleWith t.ticket) s.trunk.contexts, received := [], ready := [] }
      search := mapAll idleTrunkSearch s.search }

/-- R112: in FAULT, the millisecond just ended found both lines high throughout. -/
def State.releaseDue (s : State) : Bool := decide (s.link.state = .fault) && s.link.bothHigh

/-- R112: the link becomes IDLE with both low runs at 0. -/
def leaveFault (s : State) : State :=
  s.setLink { s.link with state := .idle, tkcLow := 0, tkdLow := 0, bothHigh := false }

/-! ## The 10-ms tick, the deadlines and the second tick -/

/-- R134: the deadline of an AWAITING_HOST context is reduced by one. -/
def countDeadline (t : TrunkContext) : TrunkContext :=
  if t.state = .awaitingHost then { t with deadline := t.deadline.map (fun d => d - 1) } else t

/-- R55, R134: a 10-ms tick counts down every deadline and raises the second count; the tick that would raise it to 100
returns it to 0 and produces a second tick. -/
def tenMsEffect (s : State) : State :=
  let last := decide (99 ≤ s.time.secondCount)
  { s with
    trunk := { s.trunk with contexts := mapAll countDeadline s.trunk.contexts }
    time := { s.time with
      tenMsDue := false
      secondCount := if last then 0 else s.time.secondCount + 1
      secondDue := if last then true else s.time.secondDue } }

/-- R134: an AWAITING_HOST context whose deadline has reached 0. -/
def TrunkContext.expired (t : TrunkContext) : Bool := decide (t.state = .awaitingHost) && decide (t.deadline = some 0)

/-- R134: some deadline has reached 0. -/
def State.expiryDue (s : State) : Bool := (List.finRange 6).any (fun c => (s.context c).expired)

/-- R134: the expired contexts get PARTIAL replies, in ascending context number. -/
def expireDeadlines (s : State) : State := endWaits .partial_ TrunkContext.expired s

/-- R57: a second tick raises seconds owed, or is lost at 15 and sets SLIP. -/
def secondEffect (s : State) : State :=
  if s.time.owed < 15 then s.setTime { s.time with owed := s.time.owed + 1, secondDue := false }
  else setFlag .slip (s.setTime { s.time with secondDue := false })

/-! ## Due consequences -/

/-- Nothing that a tick has produced is still to be taken. -/
def State.settled (s : State) : Bool :=
  !s.faultDue && !s.releaseDue && !s.time.tenMsDue && !s.expiryDue && !s.time.secondDue

def settleFault (s : State) : State := if s.faultDue then enterFault s else s
def settleRelease (s : State) : State := if s.releaseDue then leaveFault s else s
def settleTenMs (s : State) : State := if s.time.tenMsDue then tenMsEffect s else s
def settleExpiry (s : State) : State := if s.expiryDue then expireDeadlines s else s
def settleSecond (s : State) : State := if s.time.secondDue then secondEffect s else s

/-- What a tick has produced is taken: "The link and the trunk request unit take each tick as it is produced. They do not
wait for any grant" (R56; log 3). -/
def settle (s : State) : State := settleSecond (settleExpiry (settleTenMs (settleRelease (settleFault s))))

/-! ## The millisecond tick -/

/-- R110: the low run of a line after a millisecond, at most 25. -/
def lowRun (line : LineMs) (run : Nat) : Nat :=
  match line with
  | .low => min 25 (run + 1)
  | .high | .mixed => 0

/-- R110, R112: the link at a millisecond tick. IDLE or BUSY: the low runs are counted. FAULT: they are not, and the link
looks whether both lines were high throughout. -/
def tickLink (tkc tkd : LineMs) (l : Link) : Link :=
  match l.state with
  | .fault => { l with bothHigh := decide (tkc = .high) && decide (tkd = .high) }
  | .idle | .busy => { l with tkcLow := lowRun tkc l.tkcLow, tkdLow := lowRun tkd l.tkdLow }

/-- R53, R55: the divider count returns to 0, the divider value in force is taken afresh from MS_DIVIDER, and the 10-ms
count rises; the tick that would raise it to 10 returns it to 0 and produces a 10-ms tick. -/
def tickTime (divider : Nat) (t : TimeBase) : TimeBase :=
  let tenth := decide (9 ≤ t.tenMsCount)
  { t with
    dividerCount := 0, dividerInForce := divider
    tenMsCount := if tenth then 0 else t.tenMsCount + 1
    tenMsDue := if tenth then true else t.tenMsDue }

/-- R53: a REFCLK period raises the divider count until it equals the divider value in force; the period after that ends
the millisecond, during which the trunk lines were `tkc` and `tkd`, with a millisecond tick. The divider runs from the
release of RESET on (R186). -/
def refclkPeriod (tkc tkd : LineMs) (s : State) : State :=
  if s.resetLow then s
  else if s.time.dividerCount < s.time.dividerInForce then
    s.setTime { s.time with dividerCount := s.time.dividerCount + 1 }
  else { s with time := tickTime s.params.msDivider s.time, link := tickLink tkc tkd s.link }

/-- The REFCLK periods that raise the divider count to the divider value in force, taken together. -/
def fillDivider (s : State) : State :=
  if s.resetLow then s
  else s.setTime { s.time with dividerCount := max s.time.dividerCount s.time.dividerInForce }

/-- The rest of the millisecond: the periods until the divider count equals the divider value in force, and the period
after them, which ends it. It is that many times `refclkPeriod` (Laws.msEffect_eq_repeat; log 4). -/
def msEffect (tkc tkd : LineMs) (s : State) : State := refclkPeriod tkc tkd (fillDivider s)

/-- A REFCLK period on an empty queue. Where it ends the millisecond, what the lines were is a free value (log 23). -/
def idlePeriod (s : State) : State :=
  let lines := Config.idleLines s.time.idleTicks
  if s.resetLow = false ∧ s.time.dividerInForce ≤ s.time.dividerCount then
    refclkPeriod lines.1 lines.2 (s.setTime { s.time with idleTicks := s.time.idleTicks + 1 })
  else refclkPeriod lines.1 lines.2 s

end Sys2Proof.Machine
end

