-- ==== Sys2Proof/Machine/Entries.lean ====
section
/-! DEFINITION. The directory operations that a host command and a trunk request share, or that one of them names
(chapters 2 and 4): create, announce, amend, attribute edits, refresh, retire, withdraw, fetch, lock and release. An operation
that refuses answers a code and makes no change to the directory (R30). -/

namespace Sys2Proof.Machine

/-- R8: a tag of 1 to 16 bytes. -/
def tagInRange (tag : List Byte) : Bool := decide (1 ≤ tag.length) && decide (tag.length ≤ 16)

/-! ## Create (R32, R33) -/

/-- CREATE: fields, tag equality, free list, in that order; then the allocation. -/
def create (tag : List Byte) (tagLength : Nat) (cls reach visibility : Byte) (watch wake : Bool) (lease : Half)
    (s : State) : Except ResultCode (State × SlotNo) :=
  if 1 ≤ tagLength ∧ tagLength ≤ 16 then
    match reachOf reach, visibilityOf visibility with
    | some reach, some visibility =>
      if (s.findTag tag).isSome then .error .duplicate
      else
        let length := if lease = 0 then none else some lease.toNat
        match allocate
            { origin := .loc, tag := tag, cls := cls, reach := reach, visibility := visibility, watch := watch,
              wake := wake, leaseLength := length, life := .live length, lock := none, attrs := [], marks := {} } s with
        | some r => .ok r
        | none => .error .full
    | _, _ => .error .badParam
  else .error .badParam

/-! ## Announce (R34 to R38) -/

/-- R34: the granted lease: LEASE_MIN below LEASE_MIN, LEASE_MAX above LEASE_MAX, the request otherwise. -/
def grantedLease (p : Params) (r : Nat) : Nat :=
  if r < p.leaseMin then p.leaseMin else if p.leaseMax < r then p.leaseMax else r

/-- R35, R38: the new entry of node `n` is allocated, and marked CREATED if WATCH is on. -/
def announceNew (n : Byte) (tag : List Byte) (cls : Byte) (visibility : Visibility) (g : Nat) (s : State) :
    Except ResultCode (State × SlotNo) :=
  match allocate
      { origin := .trunk n, tag := tag, cls := cls, reach := some n, visibility := visibility,
        watch := s.params.trunkWatch, wake := s.params.trunkWake, leaseLength := some g, life := .live (some g),
        lock := none, attrs := [], marks := {} } s with
  | some (s, i) => .ok (addMark i .created s, i)
  | none => .error .full

/-- R36: the owner's entry is re-announced in place; REVIVED, then CHANGED, are marked if WATCH is on. -/
def reannounce (i : SlotNo) (e : Entry) (n cls : Byte) (visibility : Visibility) (g : Nat) (s : State) : State :=
  let s := s.setEntry i { e with cls := cls, visibility := visibility, reach := some n, leaseLength := some g,
                                 life := .live (some g) }
  let s := if e.life.isStale then addMark i .revived s else s
  if e.cls ≠ cls ∨ e.visibility ≠ visibility then addMark i .changed s else s

/-- R38: node `n` takes over the STALE entry `e` of another node. -/
def takeover (i : SlotNo) (e : Entry) (n : Byte) (tag : List Byte) (cls : Byte) (visibility : Visibility) (g : Nat)
    (s : State) : Except ResultCode (State × SlotNo) :=
  if e.lock.isSome then .error .duplicate
  else if s.dir.free = [] ∧ e.watch = true then .error .full
  else announceNew n tag cls visibility g (retireSide i e s)

/-- ANNOUNCE (R34): fields, then the four cases of the tag lookup. Answers the state, the slot and the granted lease. -/
def announce (n : Byte) (tag : List Byte) (cls visibility : Byte) (lease : Half) (s : State) :
    Except ResultCode (State × SlotNo × Nat) :=
  if tagInRange tag = true ∧ lease ≠ 0 then
    match visibilityOf visibility with
    | none | some .closed => .error .badParam
    | some visibility =>
      let g := grantedLease s.params lease.toNat
      let placed :=
        match s.findTag tag with
        | none => announceNew n tag cls visibility g s
        | some (i, e) =>
          match e.origin with
          | .loc => .error .duplicate
          | .trunk m =>
            if m = n then .ok (reannounce i e n cls visibility g s, i)
            else if e.life.isStale then takeover i e n tag cls visibility g s
            else .error .duplicate
      match placed with
      | .ok (s, i) => .ok (s, i, g)
      | .error code => .error code
  else .error .badParam

/-! ## Amend (R39, R40) -/

/-- R40: the fields are written, the lease restarts, a STALE entry returns to LIVE; turning WATCH off clears the marks. -/
def amended (e : Entry) (cls : Byte) (reach : Option Byte) (visibility : Visibility) (watch wake : Bool) (lease : Half) :
    Entry :=
  let length := if lease = 0 then none else some lease.toNat
  { e with cls := cls, reach := reach, visibility := visibility, watch := watch, wake := wake, leaseLength := length,
           life := .live length, marks := if e.watch = true ∧ watch = false then {} else e.marks }

/-- AMEND (R39): fields, handle, state, lease against origin, lock, in that order. -/
def amend (h : Handle) (cls reach visibility : Byte) (watch wake : Bool) (lease : Half) (force : Bool) (s : State) :
    Except ResultCode State :=
  match reachOf reach, visibilityOf visibility with
  | some reach, some visibility =>
    match s.lookup h with
    | none => .error .unknown
    | some (i, e) =>
      if e.life.isSpent then .error .inactive
      else if lease = 0 ∧ e.origin ≠ .loc then .error .badParam
      else if lockBars .loc force e then .error .locked
      else
        let s := s.setEntry i (amended e cls reach visibility watch wake lease)
        .ok (if e.life.isStale = true ∧ e.watch = true ∧ watch = true then addMark i .revived s else s)
  | _, _ => .error .badParam

/-! ## Attribute edits (R17, R41 to R43) -/

/-- R17: a pair is inserted where it keeps the ids ascending, or its value replaces that of the same id. -/
def putPair (a : Attr) : List Attr → List Attr
  | [] => [a]
  | b :: rest => if a.id = b.id then a :: rest else if a.id.toNat < b.id.toNat then a :: b :: rest else b :: putPair a rest

/-- R17: the pair with an id is removed. -/
def dropPair (id : Byte) (l : List Attr) : List Attr := l.filter (fun a => decide (a.id ≠ id))

/-- The list holds a pair with this id. -/
def hasPair (id : Byte) (l : List Attr) : Bool := l.any (fun a => decide (a.id = id))

/-- R41, steps 1 to 6: id, handle, CLOSED, owner, state, lock. LOCAL is accepted on LIVE and STALE, a node on LIVE. -/
def judgeEdit (who : Party) (force : Bool) (h : Handle) (id : Byte) (s : State) : Except ResultCode (SlotNo × Entry) :=
  if 1 ≤ id.toNat ∧ id.toNat ≤ 254 then
    match s.lookup h with
    | none => .error .unknown
    | some (i, e) =>
      if closedTo who e then .error .unknown
      else if !ownedBy who e then .error .notOwner
      else if e.life.isSpent || (decide (who ≠ .loc) && e.life.isStale) then .error .inactive
      else if lockBars who force e then .error .locked
      else .ok (i, e)
  else .error .badParam

/-- R42, R43: the list is written; an edit from a node marks the entry CHANGED if WATCH is on. -/
def writePairs (who : Party) (i : SlotNo) (e : Entry) (pairs : List Attr) (s : State) : State :=
  let s := s.setEntry i { e with attrs := pairs }
  if who = .loc then s else addMark i .changed s

/-- PUT_ATTR, POST_ATTR (R41, R42). -/
def putAttr (who : Party) (force : Bool) (h : Handle) (id : Byte) (value : Half) (s : State) : Except ResultCode State :=
  match judgeEdit who force h id s with
  | .error code => .error code
  | .ok (i, e) =>
    if hasPair id e.attrs = false ∧ 6 ≤ e.attrs.length then .error .attrFull
    else .ok (writePairs who i e (putPair { id := id, value := value } e.attrs) s)

/-- DROP_ATTR from the host or from a node (R41, R43). -/
def dropAttr (who : Party) (force : Bool) (h : Handle) (id : Byte) (s : State) : Except ResultCode State :=
  match judgeEdit who force h id s with
  | .error code => .error code
  | .ok (i, e) =>
    if hasPair id e.attrs then .ok (writePairs who i e (dropPair id e.attrs) s) else .error .noAttr

/-! ## Refresh, retire, withdraw (R44 to R47) -/

/-- REFRESH (R44): answers the state and the lease remaining. -/
def refresh (n : Byte) (h : Handle) (s : State) : Except ResultCode (State × Nat) :=
  match s.lookup h with
  | none => .error .unknown
  | some (i, e) =>
    if e.life.isSpent then .error .unknown
    else if closedTo (.node n) e then .error .unknown
    else if !ownedBy (.node n) e then .error .notOwner
    else
      let s := s.setEntry i e.restarted
      .ok (if e.life.isStale then addMark i .revived s else s, e.leaseLength.getD 0)

/-- RETIRE (R46). -/
def retire (h : Handle) (force : Bool) (s : State) : Except ResultCode State :=
  match s.lookup h with
  | none => .error .unknown
  | some (i, e) =>
    if e.life.isSpent then .error .inactive
    else if lockBars .loc force e then .error .locked
    else .ok (freeSlot i s)

/-- WITHDRAW (R47). -/
def withdraw (n : Byte) (h : Handle) (s : State) : Except ResultCode State :=
  match s.lookup h with
  | none => .error .unknown
  | some (i, e) =>
    if closedTo (.node n) e then .error .unknown
    else if !ownedBy (.node n) e then .error .notOwner
    else if e.life.isSpent then .error .inactive
    else if lockBars (.node n) false e then .error .locked
    else .ok (retireSide i e s)

/-! ## Fetch (R50) -/

/-- R12: a GUARDED entry met by a node that is not its owner. -/
def needsConsent (n : Byte) (e : Entry) : Bool :=
  decide (e.visibility = .guarded) && decide (e.origin ≠ .trunk n)

/-- FETCH (R50): the entry, if its description may be told. -/
def fetch (n : Byte) (h : Handle) (s : State) : Except ResultCode Entry :=
  match s.lookup h with
  | none => .error .unknown
  | some (_, e) =>
    if closedTo (.node n) e then .error .unknown
    else if needsConsent n e then .error .denied
    else if e.life.isLive then .ok e
    else .error .inactive

/-! ## Locks (R73 to R78) -/

/-- R75: the granted hold: at most LOCK_MAX. -/
def grantedHold (p : Params) (hold : Nat) : Nat := if hold ≤ p.lockMax then hold else p.lockMax

/-- R75: a lock is set or renewed for the requester, with the granted hold; a lock held by another is answered. -/
def claimLock (who : Party) (hold : Byte) (i : SlotNo) (e : Entry) (s : State) : Except Lock (State × Nat) :=
  let h := grantedHold s.params hold.toNat
  match e.lock with
  | some k =>
    if k.holder = who then .ok (s.setEntry i { e with lock := some { holder := who, lapse := h } }, h) else .error k
  | none => .ok (s.setEntry i { e with lock := some { holder := who, lapse := h } }, h)

/-- R73, steps 1 to 3: hold, handle, state. -/
def judgeLock (h : Handle) (hold : Byte) (s : State) : Except ResultCode (SlotNo × Entry) :=
  if hold = 0 then .error .badParam
  else
    match s.lookup h with
    | none => .error .unknown
    | some (i, e) => if e.life.isSpent then .error .inactive else .ok (i, e)

/-- R74, steps 1 to 5: hold, handle, CLOSED, consent, state. -/
def judgeClaim (n : Byte) (h : Handle) (hold : Byte) (s : State) : Except ResultCode (SlotNo × Entry) :=
  if hold = 0 then .error .badParam
  else
    match s.lookup h with
    | none => .error .unknown
    | some (i, e) =>
      if closedTo (.node n) e then .error .unknown
      else if needsConsent n e then .error .denied
      else if e.life.isLive then .ok (i, e)
      else .error .inactive

/-- R77: what an UNLOCK does to the entry's lock: the code, the lock reported, and whether it is released. -/
def unlockOutcome (force : Bool) (e : Entry) : ResultCode × Bool :=
  match e.lock with
  | none => (.notHolder, false)
  | some k => if k.holder = .loc ∨ force = true then (.ok, true) else (.notHolder, false)

/-- YIELD (R78): handle, CLOSED, state, lock. -/
def yield (n : Byte) (h : Handle) (s : State) : Except ResultCode State :=
  match s.lookup h with
  | none => .error .unknown
  | some (i, e) =>
    if closedTo (.node n) e then .error .unknown
    else if e.life.isSpent then .error .inactive
    else
      match e.lock with
      | none => .error .notHolder
      | some k => if k.holder = .node n then .ok (s.setEntry i { e with lock := none }) else .error .notHolder

end Sys2Proof.Machine
end

