-- ==== Sys2Proof/Machine/HostCommands.lean ====
section
/-! DEFINITION. The meanings of the Command grants: the 18 commands and the unknown CODE, with the slot fields each reads
and writes (R154 to R158). -/

namespace Sys2Proof.Machine

/-- The CODE of one command (12.1). -/
def isCode (code : Byte) (b : Byte) : Bool := decide (b = code)

/-- A command with no output field. -/
def finishPlain (s : State) (r : Except ResultCode State) : Completion :=
  match r with
  | .ok t => answerOnly t .ok []
  | .error code => answerOnly s code []

def CommandSlot.watch (c : CommandSlot) : Bool := (c.byte Offset.entryFlags).getLsbD 0
def CommandSlot.wake (c : CommandSlot) : Bool := (c.byte Offset.entryFlags).getLsbD 1

/-! ## Commands on entries (R156) -/

/-- CREATE: HANDLE receives the new handle. -/
def performCreate (c : CommandSlot) (s : State) : Completion :=
  let length := (c.byte Offset.tagLength).toNat
  match create (c.dataBytes length) length (c.byte Offset.cls) (c.byte Offset.reach) (c.byte Offset.visibility)
      c.watch c.wake (c.half Offset.lease) s with
  | .ok (t, i) => answerOnly t .ok (halfAt Offset.handle (t.handleOf i))
  | .error code => answerOnly s code (halfAt Offset.handle nullHandle)

/-- CREATE (R32, R33). -/
def execCreate (s : State) : Host.Outcome State Fault Refusal :=
  .next (commandGrant (isCode 0x01) performCreate (settle s))

/-- AMEND. -/
def performAmend (c : CommandSlot) (s : State) : Completion :=
  finishPlain s (amend (c.half Offset.handle) (c.byte Offset.cls) (c.byte Offset.reach) (c.byte Offset.visibility)
    c.watch c.wake (c.half Offset.lease) c.force s)

/-- AMEND (R39, R40). -/
def execAmend (s : State) : Host.Outcome State Fault Refusal :=
  .next (commandGrant (isCode 0x02) performAmend (settle s))

/-- PUT_ATTR. -/
def performPutAttr (c : CommandSlot) (s : State) : Completion :=
  finishPlain s (putAttr .loc c.force (c.half Offset.handle) (c.byte Offset.index) (c.half Offset.value) s)

/-- PUT_ATTR (R41, R42). -/
def execPutAttr (s : State) : Host.Outcome State Fault Refusal :=
  .next (commandGrant (isCode 0x03) performPutAttr (settle s))

/-- DROP_ATTR from the host. -/
def performDropAttr (c : CommandSlot) (s : State) : Completion :=
  finishPlain s (dropAttr .loc c.force (c.half Offset.handle) (c.byte Offset.index) s)

/-- DROP_ATTR (R41, R43). -/
def execDropAttr (s : State) : Host.Outcome State Fault Refusal :=
  .next (commandGrant (isCode 0x04) performDropAttr (settle s))

/-- RETIRE. -/
def performRetire (c : CommandSlot) (s : State) : Completion :=
  finishPlain s (retire (c.half Offset.handle) c.force s)

/-- RETIRE (R46). -/
def execRetire (s : State) : Host.Outcome State Fault Refusal :=
  .next (commandGrant (isCode 0x05) performRetire (settle s))

/-- The lease remaining position of R48: lease remaining, grace remaining in STALE, or 0. -/
def Life.remaining : Life → Nat
  | .live r => r.getD 0
  | .stale g => g
  | .spent => 0

/-- The GRACE field of READ: the grace remaining in STALE; 0 in LIVE and SPENT. -/
def Life.grace : Life → Nat
  | .stale g => g
  | .live _ | .spent => 0

/-- The output fields of READ (R156). -/
def readOutputs (e : Entry) : List (Fin 48 × Byte) :=
  [(Offset.state, e.life.toByte), (Offset.selector, e.origin.toByte), (Offset.owner, e.origin.ownerByte),
    (Offset.tagLength, BitVec.ofNat 8 e.tag.length)]
    ++ dataOutputs e.tag
    ++ [(Offset.cls, e.cls), (Offset.reach, reachByte e.reach), (Offset.visibility, e.visibility.toByte),
        (Offset.entryFlags, entryFlagsByte e.watch e.wake)]
    ++ halfAt Offset.value (BitVec.ofNat 16 e.life.remaining)
    ++ halfAt Offset.lease (BitVec.ofNat 16 (e.leaseLength.getD 0))
    ++ [(Offset.grace, BitVec.ofNat 8 e.life.grace), (Offset.holder, holderByte e.lock), (Offset.hold, lapseByte e.lock),
        (Offset.index, BitVec.ofNat 8 e.attrs.length), (Offset.marks, e.marks.toByte)]

/-- The output fields of a READ that is refused (R155): 0, and FFh for no holder. -/
def readRefused : List (Fin 48 × Byte) :=
  [(Offset.state, 0x00), (Offset.selector, 0x00), (Offset.owner, 0x00), (Offset.tagLength, 0x00)]
    ++ dataOutputs []
    ++ [(Offset.cls, 0x00), (Offset.reach, 0x00), (Offset.visibility, 0x00), (Offset.entryFlags, 0x00)]
    ++ halfAt Offset.value 0 ++ halfAt Offset.lease 0
    ++ [(Offset.grace, 0x00), (Offset.holder, 0xFF), (Offset.hold, 0x00), (Offset.index, 0x00), (Offset.marks, 0x00)]

/-- READ. -/
def performRead (c : CommandSlot) (s : State) : Completion :=
  match s.lookup (c.half Offset.handle) with
  | some (_, e) => answerOnly s .ok (readOutputs e)
  | none => answerOnly s .unknown readRefused

/-- READ (R48). -/
def execRead (s : State) : Host.Outcome State Fault Refusal :=
  .next (commandGrant (isCode 0x06) performRead (settle s))

/-- The output fields of READ_ATTR. -/
def attrOutputs (id : Byte) (value : Half) : List (Fin 48 × Byte) := (Offset.index, id) :: halfAt Offset.value value

/-- READ_ATTR: index, handle, content. -/
def performReadAttr (c : CommandSlot) (s : State) : Completion :=
  if (c.byte Offset.index).toNat ≤ 5 then
    match s.lookup (c.half Offset.handle) with
    | none => answerOnly s .unknown (attrOutputs 0 0)
    | some (_, e) =>
      match e.attrs[(c.byte Offset.index).toNat]? with
      | some a => answerOnly s .ok (attrOutputs a.id a.value)
      | none => answerOnly s .noAttr (attrOutputs 0 0)
  else answerOnly s .badParam (attrOutputs 0 0)

/-- READ_ATTR (R49). -/
def execReadAttr (s : State) : Host.Outcome State Fault Refusal :=
  .next (commandGrant (isCode 0x0C) performReadAttr (settle s))

/-- HOLDER and HOLD/LAPSE (R76, R77). -/
def lockOutputs (holder lapse : Byte) : List (Fin 48 × Byte) := [(Offset.holder, holder), (Offset.hold, lapse)]

/-- LOCK. -/
def performLock (c : CommandSlot) (s : State) : Completion :=
  match judgeLock (c.half Offset.handle) (c.byte Offset.hold) s with
  | .error code => answerOnly s code (lockOutputs 0xFF 0x00)
  | .ok (i, e) =>
    match claimLock .loc (c.byte Offset.hold) i e s with
    | .ok (t, h) => answerOnly t .ok (lockOutputs 0x00 (BitVec.ofNat 8 h))
    | .error k => answerOnly s .locked (lockOutputs k.holder.toByte (BitVec.ofNat 8 k.lapse))

/-- LOCK (R73, R75, R76). -/
def execLock (s : State) : Host.Outcome State Fault Refusal :=
  .next (commandGrant (isCode 0x07) performLock (settle s))

/-- UNLOCK: handle, state, lock. -/
def performUnlock (c : CommandSlot) (s : State) : Completion :=
  match s.lookup (c.half Offset.handle) with
  | none => answerOnly s .unknown (lockOutputs 0xFF 0x00)
  | some (i, e) =>
    if e.life.isSpent then answerOnly s .inactive (lockOutputs 0xFF 0x00)
    else
      match unlockOutcome c.force e with
      | (code, released) =>
        answerOnly (if released then s.setEntry i { e with lock := none } else s) code
          (lockOutputs (holderByte e.lock) (lapseByte e.lock))

/-- UNLOCK (R77). -/
def execUnlock (s : State) : Host.Outcome State Fault Refusal :=
  .next (commandGrant (isCode 0x08) performUnlock (settle s))

/-! ## Search commands (R157) -/

/-- R91: the LOCAL search that a SEARCH_START asks for. -/
def localSearch (c : CommandSlot) : Search :=
  let start := (c.byte Offset.start).toNat
  { owner := .loc, burst := c.option 3, pattern := c.dataBytes (c.byte Offset.tagLength).toNat,
    mask := c.half Offset.mask, exact := c.option 1,
    classFilter := if c.option 4 then some (c.byte Offset.cls) else none,
    includeStale := c.option 2, start := start, cursor := start, limit := (c.byte Offset.value).toNat, results := [] }

/-- SEARCH_START: fields, claim. -/
def performSearchStart (c : CommandSlot) (s : State) : Completion :=
  let length := (c.byte Offset.tagLength).toNat
  let limit := (c.byte Offset.value).toNat
  if 1 ≤ length ∧ length ≤ 16 ∧ 1 ≤ limit ∧ limit ≤ 32 then
    match s.idleSearch with
    | some k => answerOnly (s.setSearch k (.running (localSearch c))) .ok [(Offset.state, BitVec.ofNat 8 k.val)]
    | none => answerOnly s .busy [(Offset.state, 0xFF)]
  else answerOnly s .badParam [(Offset.state, 0xFF)]

/-- SEARCH_START (R91). -/
def execSearchStart (s : State) : Host.Outcome State Fault Refusal :=
  .next (commandGrant (isCode 0x09) performSearchStart (settle s))

/-- The search context a slot names, if its number is at most 3. -/
def CommandSlot.searchNumber (c : CommandSlot) : Option (Fin 4) :=
  if h : (c.byte Offset.state).toNat < 4 then some ⟨(c.byte Offset.state).toNat, h⟩ else none

/-- SEARCH_CANCEL: number, idle, owner, state. -/
def performSearchCancel (c : CommandSlot) (s : State) : Completion :=
  match c.searchNumber with
  | none => answerOnly s .badParam []
  | some k =>
    match s.searchContext k with
    | .idle => answerOnly s .none_ []
    | .running r =>
      match r.owner with
      | .trunk _ => answerOnly s .badParam []
      | .loc => answerOnly (s.setSearch k (.done .cancelled r)) .ok []
    | .done _ r =>
      match r.owner with
      | .trunk _ => answerOnly s .badParam []
      | .loc => answerOnly s .none_ []

/-- SEARCH_CANCEL (R102). -/
def execSearchCancel (s : State) : Host.Outcome State Fault Refusal :=
  .next (commandGrant (isCode 0x0A) performSearchCancel (settle s))

/-- The cursor and the handles of a context, as RESULTS returns them: 0 and none when IDLE. -/
def SearchContext.cursor : SearchContext → Nat
  | .idle => 0
  | .running r | .done _ r => r.cursor

def SearchContext.results : SearchContext → List Handle
  | .idle => []
  | .running r | .done _ r => r.results

/-- Eight handles from an index on, null beyond the list (R103). -/
def eightHandles (first : Nat) (l : List Handle) : List Byte :=
  (List.range 8).flatMap (fun k => halfBytes (l.getD (first + k) nullHandle))

/-- The output fields of RESULTS. -/
def resultsOutputs (x : SearchContext) (first : Nat) : List (Fin 48 × Byte) :=
  [(Offset.state, x.stateByte), (Offset.owner, x.ownerByte)]
    ++ halfAt Offset.value (BitVec.ofNat 16 x.cursor)
    ++ [(Offset.index, BitVec.ofNat 8 x.results.length)]
    ++ dataOutputs (eightHandles first x.results)

/-- The output fields of a RESULTS that is refused (R155). -/
def resultsRefused : List (Fin 48 × Byte) :=
  [(Offset.state, 0x00), (Offset.owner, 0x00)] ++ halfAt Offset.value 0 ++ [(Offset.index, 0x00)] ++ dataOutputs []

/-- RESULTS. -/
def performResults (c : CommandSlot) (s : State) : Completion :=
  match c.searchNumber with
  | none => answerOnly s .badParam resultsRefused
  | some k =>
    if (c.byte Offset.index).toNat ≤ 31 then
      answerOnly s .ok (resultsOutputs (s.searchContext k) (c.byte Offset.index).toNat)
    else answerOnly s .badParam resultsRefused

/-- RESULTS (R103). -/
def execResults (s : State) : Host.Outcome State Fault Refusal :=
  .next (commandGrant (isCode 0x0B) performResults (settle s))

/-- SEARCH_RELEASE: number, owner, state. -/
def performSearchRelease (c : CommandSlot) (s : State) : Completion :=
  match c.searchNumber with
  | none => answerOnly s .badParam []
  | some k =>
    match s.searchContext k with
    | .idle => answerOnly s .ok []
    | .running r =>
      match r.owner with
      | .trunk _ => answerOnly s .badParam []
      | .loc => answerOnly s .busy []
    | .done _ r =>
      match r.owner with
      | .trunk _ => answerOnly s .badParam []
      | .loc => answerOnly (s.setSearch k .idle) .ok []

/-- SEARCH_RELEASE (R104). -/
def execSearchRelease (s : State) : Host.Outcome State Fault Refusal :=
  .next (commandGrant (isCode 0x0D) performSearchRelease (settle s))

/-! ## COLLECT (R165, R166) -/

/-- R165: the slots in the order of the scan: from the one after the cursor, wrapping, to the one the cursor names. -/
def collectOrder (cursor : SlotNo) : List SlotNo := allSlots.map (fun k => cursor + 1 + k)

/-- R165: the first slot of the scan whose marks set is not empty. -/
def State.nextMarked (s : State) : Option (SlotNo × Entry) :=
  (collectOrder s.dir.collectCursor).findSome? (fun i =>
    match s.entryOf i with
    | some e => if e.marks ≠ Marks.none_ then some (i, e) else none
    | none => none)

/-- The output fields of COLLECT. -/
def collectOutputs (h : Handle) (state marks : Byte) (tag : List Byte) : List (Fin 48 × Byte) :=
  halfAt Offset.handle h
    ++ [(Offset.state, state), (Offset.marks, marks), (Offset.tagLength, BitVec.ofNat 8 tag.length)]
    ++ dataOutputs tag

/-- R166: the marks are emptied, the cursor moves to the slot, a SPENT entry goes FREE. -/
def collectEntry (i : SlotNo) (e : Entry) (s : State) : State :=
  let s := s.setEntry i { e with marks := Marks.none_ }
  let s := s.setDir { s.dir with collectCursor := i }
  if e.life.isSpent then freeSlot i s else s

/-- COLLECT; it reads no input field. -/
def performCollect (_c : CommandSlot) (s : State) : Completion :=
  match s.nextMarked with
  | some (i, e) =>
    answerOnly (collectEntry i e s) .ok (collectOutputs (s.handleOf i) e.life.toByte e.marks.toByte e.tag)
  | none => answerOnly s .none_ (collectOutputs nullHandle 0x00 0x00 [])

/-- COLLECT (R165, R166). -/
def execCollect (s : State) : Host.Outcome State Fault Refusal :=
  .next (commandGrant (isCode 0x0E) performCollect (settle s))

/-! ## Forwarded seeks (R135, R136) -/

/-- The trunk context a slot names, if its number is at most 5. -/
def CommandSlot.trunkNumber (c : CommandSlot) : Option (Fin 6) :=
  if h : (c.byte Offset.state).toNat < 6 then some ⟨(c.byte Offset.state).toNat, h⟩ else none

/-- The pattern of the SEEK a context holds. -/
def TrunkContext.pattern (t : TrunkContext) : List Byte :=
  match t.request with
  | some (.seek _ _ _ pattern _) => pattern
  | some (.announce _ _ _ _) | some (.refresh _) | some (.withdraw _) | some (.fetch _) | some (.postAttr _ _ _)
  | some (.dropAttr _ _) | some (.claim _ _) | some (.yield _) | none => []

/-- The handles of the guarded items, in ascending slot order. -/
def TrunkContext.guardedHandles (t : TrunkContext) : List Handle :=
  (t.results.filter (fun x => x.guarded)).map (fun x => x.handle)

/-- The output fields of READ_FORWARD. -/
def forwardOutputs (state ticket requester : Byte) (pattern : List Byte) (guarded : List Handle) : List (Fin 48 × Byte) :=
  [(Offset.state, state), (Offset.ticket, ticket), (Offset.owner, requester),
    (Offset.tagLength, BitVec.ofNat 8 pattern.length)]
    ++ dataOutputs pattern
    ++ [(Offset.index, BitVec.ofNat 8 guarded.length)]
    ++ halfAt Offset.handle (guarded.getD 0 nullHandle) ++ halfAt Offset.mask (guarded.getD 1 nullHandle)
    ++ halfAt Offset.lease (guarded.getD 2 nullHandle) ++ halfAt Offset.value (guarded.getD 3 nullHandle)

/-- READ_FORWARD. -/
def performReadForward (c : CommandSlot) (s : State) : Completion :=
  match c.trunkNumber with
  | none => answerOnly s .badParam (forwardOutputs 0x00 0x00 0x00 [] [])
  | some k =>
    let t := s.context k
    if t.state = .awaitingHost then
      answerOnly s .ok (forwardOutputs t.state.toByte t.ticket t.node t.pattern t.guardedHandles)
    else answerOnly s .none_ (forwardOutputs t.state.toByte t.ticket 0x00 [] [])

/-- READ_FORWARD (R135). -/
def execReadForward (s : State) : Host.Outcome State Fault Refusal :=
  .next (commandGrant (isCode 0x0F) performReadForward (settle s))

/-- R136, steps 1 to 3: the items kept, in order; `g` guarded items stand before the list. -/
def answeredItems (s : State) (allow : Byte) : Nat → List Item → List Item
  | _, [] => []
  | g, x :: rest =>
    let others := answeredItems s allow (if x.guarded then g + 1 else g) rest
    if x.guarded = true ∧ allow.getLsbD g = false then others
    else
      match revalidated s x.handle with
      | some (_, e) => { x with reach := e.reach, cls := e.cls } :: others
      | none => others

/-- ANSWER: number, context and ticket, then the reply. -/
def performAnswer (c : CommandSlot) (s : State) : Completion :=
  match c.trunkNumber with
  | none => answerOnly s .badParam [(Offset.index, 0x00)]
  | some k =>
    let t := s.context k
    if t.state = .awaitingHost ∧ t.ticket = c.byte Offset.ticket then
      let items := answeredItems s (c.byte Offset.allow) 0 t.results
      answerOnly (buildReply k (seekReply .ok (t.nextCursor.getD 0) items) s) .ok
        [(Offset.index, BitVec.ofNat 8 items.length)]
    else answerOnly s .tooLate [(Offset.index, 0x00)]

/-- ANSWER (R136). -/
def execAnswer (s : State) : Host.Outcome State Fault Refusal :=
  .next (commandGrant (isCode 0x10) performAnswer (settle s))

/-! ## PURGE (R51) -/

/-- One slot of a purge: a LIVE or STALE entry of a selected origin goes FREE and is counted. -/
def purgeSlot (selected : Origin → Bool) (r : State × Nat) (i : SlotNo) : State × Nat :=
  match r.1.entryOf i with
  | some e => if e.countsForTag = true ∧ selected e.origin = true then (freeSlot i r.1, r.2 + 1) else r
  | none => r

/-- R51: every slot in ascending order. -/
def purgeAll (selected : Origin → Bool) (s : State) : State × Nat := allSlots.foldl (purgeSlot selected) (s, 0)

/-- PURGE. -/
def performPurge (c : CommandSlot) (s : State) : Completion :=
  match selects (c.byte Offset.selector) with
  | none => answerOnly s .badParam (halfAt Offset.value 0)
  | some selected =>
    let r := purgeAll selected s
    answerOnly r.1 .ok (halfAt Offset.value (BitVec.ofNat 16 r.2))

/-- PURGE (R51). -/
def execPurge (s : State) : Host.Outcome State Fault Refusal :=
  .next (commandGrant (isCode 0x11) performPurge (settle s))

/-! ## SET_PARAM (R158) -/

/-- TRUNK_FLAGS as a number. -/
def Params.trunkFlags (p : Params) : Nat := p.trunkWatch.toNat + 2 * p.trunkWake.toNat

/-- The value in force of the parameter an id names; 0 when it names none. -/
def Params.value (p : Params) (id : Byte) : Nat :=
  if id = 0x01 then p.dirAddress.toNat else if id = 0x02 then p.leaseMin else if id = 0x03 then p.leaseMax
  else if id = 0x04 then p.grace else if id = 0x05 then p.lockMax else if id = 0x06 then p.fwdDeadline
  else if id = 0x07 then p.msDivider else if id = 0x08 then p.trunkFlags else if id = 0x09 then p.linkSpeed.toNat
  else 0

/-- A set of parameters that is taken only if a test holds. -/
def takeIf (test : Bool) (p : Params) : Option Params := if test then some p else none

/-- The parameters with the one an id names set to `v`, if the id names one and `v` is in its range. -/
def Params.withValue (p : Params) (id : Byte) (v : Nat) : Option Params :=
  if id = 0x01 then takeIf (decide (112 ≤ v) && decide (v ≤ 127)) { p with dirAddress := BitVec.ofNat 8 v }
  else if id = 0x02 then takeIf (decide (1 ≤ v) && decide (v ≤ p.leaseMax)) { p with leaseMin := v }
  else if id = 0x03 then takeIf (decide (1 ≤ v) && decide (p.leaseMin ≤ v)) { p with leaseMax := v }
  else if id = 0x04 then takeIf (decide (v ≤ 255)) { p with grace := v }
  else if id = 0x05 then takeIf (decide (1 ≤ v) && decide (v ≤ 255)) { p with lockMax := v }
  else if id = 0x06 then takeIf (decide (1 ≤ v) && decide (v ≤ 255)) { p with fwdDeadline := v }
  else if id = 0x07 then takeIf (decide (999 ≤ v) && decide (v ≤ 39999)) { p with msDivider := v }
  else if id = 0x08 then takeIf (decide (v ≤ 3)) { p with trunkWatch := v.testBit 0, trunkWake := v.testBit 1 }
  else if id = 0x09 then
    if v = 100 then some { p with linkSpeed := .kbit100 } else takeIf (decide (v = 400)) { p with linkSpeed := .kbit400 }
  else none

/-- SET_PARAM: VALUE/LIMIT/START receives the value in force after the command. -/
def performSetParam (c : CommandSlot) (s : State) : Completion :=
  let id := c.byte Offset.selector
  match s.params.withValue id (c.half Offset.value).toNat with
  | some p => answerOnly (s.setParams p) .ok (halfAt Offset.value (BitVec.ofNat 16 (p.value id)))
  | none => answerOnly s .badParam (halfAt Offset.value (BitVec.ofNat 16 (s.params.value id)))

/-- SET_PARAM (R158). -/
def execSetParam (s : State) : Host.Outcome State Fault Refusal :=
  .next (commandGrant (isCode 0x12) performSetParam (settle s))

/-! ## A CODE that names no command (R154) -/

/-- The codes of the 18 commands are 01h to 12h. -/
def isUnknownCode (b : Byte) : Bool := !(decide (1 ≤ b.toNat) && decide (b.toNat ≤ 18))

/-- BAD_PARAM, with no output field. -/
def performUnknown (_c : CommandSlot) (s : State) : Completion := answerOnly s .badParam []

/-- UNKNOWN_COMMAND (R154). -/
def execUnknownCommand (s : State) : Host.Outcome State Fault Refusal :=
  .next (commandGrant isUnknownCode performUnknown (settle s))

end Sys2Proof.Machine
end

