-- ==== Sys2Proof/Machine/LinkRows.lean ====
section
/-! DEFINITION. The meanings of the trunk link's rows: conditions, received bytes, sent replies (R107 to R109, R115 to
R121). -/

namespace Sys2Proof.Machine

/-! ## Conditions -/

/-- R115, R117: a frame begins: DIR_ADDRESS is latched and the next byte is its destination. -/
def beginFrame (s : State) : State :=
  s.setLink { s.link with
    state := .busy, latchedDir := some s.params.dirAddress, afterLoad := s.loadEnded, receiver := .destination,
    crc := 0x00, ackLow := false }

/-- R116: a frame that had claimed a context is discarded; the context returns to IDLE with its ticket. -/
def discardFrame (s : State) : State :=
  match s.link.receiver with
  | .frame c _ => clearContext c s
  | .waiting | .destination | .ignoring => s

/-- R107, R109: START, from IDLE. -/
def startEffect (s : State) : State := if s.resetLow = false ∧ s.link.state = .idle then beginFrame s else s

/-- START_CONDITION (R107). -/
def execStartCondition (s : State) : Host.Outcome State Fault Refusal := .next (startEffect (settle s))

/-- The part sends no more of a reply and does not put it back: the context becomes IDLE with its ticket (R121). -/
def dropReply (c : Fin 6) (s : State) : State :=
  let s := clearContext c s
  s.setLink { s.link with transmitter := none }

/-- A frame that the part itself was sending has been ended by another master's condition, with no arbitration lost: the
part "never sends one reply twice, except after arbitration loss" (R121), so its reply is dropped (log 12). -/
def dropSending (s : State) : State :=
  match s.link.transmitter with
  | none => s
  | some x => dropReply x.context s

/-- R107, R109: RESTART, in BUSY: the frame in progress, received or sent, is ended unfinished, and a new one begins. -/
def restartEffect (s : State) : State :=
  if s.link.state = .busy then beginFrame (discardFrame (dropSending s)) else s

/-- RESTART_CONDITION (R107). -/
def execRestartCondition (s : State) : Host.Outcome State Fault Refusal := .next (restartEffect (settle s))

/-- The link after a STOP (R109). -/
def endFrame (s : State) : State := s.setLink { s.link with state := .idle, receiver := .waiting, ackLow := false }

/-- R116: the context becomes RECEIVED and joins the tail of the received queue. -/
def completeFrame (c : Fin 6) (s : State) : State :=
  let s := s.setContext c { s.context c with state := .received }
  s.setTrunk { s.trunk with received := s.trunk.received ++ [c] }

/-- R109, R116: STOP, in BUSY: a frame whose check was acknowledged is received, any other claimed one discarded. -/
def stopEffect (s : State) : State :=
  if s.link.state = .busy then
    let s := dropSending s
    match s.link.receiver with
    | .frame c .complete => endFrame (completeFrame c s)
    | .frame _ _ | .waiting | .destination | .ignoring => endFrame (discardFrame s)
  else s

/-- STOP_CONDITION (R109). -/
def execStopCondition (s : State) : Host.Outcome State Fault Refusal := .next (stopEffect (settle s))

/-! ## Received bytes -/

/-- R115: the context a destination byte claims, if the four conditions hold. -/
def claimable (v : Byte) (s : State) : Option (Fin 6) :=
  if s.link.latchedDir = some v ∧ s.link.state ≠ .fault ∧ s.link.afterLoad = true then s.idleContext else none

/-- R115: the claimed context: RECEIVING, its ticket advanced, everything else emptied. -/
def claimedContext (t : TrunkContext) : TrunkContext :=
  { TrunkContext.idleWith (t.ticket + 1) with state := .receiving }

/-- The receiver refuses a byte and ignores the rest of the frame. -/
def ignoreRest (s : State) : State := s.setLink { s.link with receiver := .ignoring, ackLow := false }

/-- The receiver acknowledges a byte and goes on to the next part of the frame. -/
def acceptNext (c : Fin 6) (part : FramePart) (v : Byte) (s : State) : State :=
  s.setLink { s.link with receiver := .frame c part, crc := crcByte s.link.crc v, ackLow := true }

/-- R115: the destination byte. -/
def judgeDestination (v : Byte) (s : State) : State :=
  match claimable v s with
  | some c => acceptNext c .source v (s.setContext c (claimedContext (s.context c)))
  | none => ignoreRest s

/-- The part of the frame that follows when `n` payload bytes are still to come. -/
def payloadPart (n : Nat) : FramePart := if n = 0 then .check else .payload n

/-- R116: whether a byte after the destination is acknowledged, what is expected next, and the context that stores it. -/
def acceptByte (crc v : Byte) (t : TrunkContext) : FramePart → Option (FramePart × TrunkContext)
  | .source => if isNode v then some (.kind, { t with requester := some v }) else none
  | .kind => some (.tag, { t with kind := some v })
  | .tag => some (.length, { t with tag := some v })
  | .length => if v.toNat ≤ 40 then some (payloadPart v.toNat, { t with length := some v.toNat }) else none
  | .payload left => some (payloadPart (left - 1), { t with payload := t.payload ++ [v] })
  | .check => if v = crc then some (.complete, t) else none
  | .complete => none

/-- R116: a byte of a frame that has claimed context `c`. -/
def judgeByte (c : Fin 6) (part : FramePart) (v : Byte) (s : State) : State :=
  match acceptByte s.link.crc v (s.context c) part with
  | some (next, t) => acceptNext c next v (s.setContext c t)
  | none => ignoreRest (discardFrame s)

/-- The bytes on the trunk are another master's: the link is BUSY and the part does not send (log 12). -/
def State.follows (s : State) : Bool := decide (s.link.state = .busy) && s.link.transmitter.isNone

/-- R115, R116: a whole byte of a frame that another master sends. -/
def receiveEffect (v : Byte) (s : State) : State :=
  if s.follows then
    match s.link.receiver with
    | .destination => judgeDestination v s
    | .frame c part => judgeByte c part v s
    | .waiting | .ignoring => s.setLink { s.link with ackLow := false }
  else s

/-- RECEIVE_BYTE (R116). -/
def execReceiveByte (value : Byte) (s : State) : Host.Outcome State Fault Refusal := .next (receiveEffect value (settle s))

/-! ## Sending -/

/-- The frame of the reply that context `t` holds, under a latched DIR_ADDRESS (R118). -/
def TrunkContext.frame (t : TrunkContext) (source : Byte) : List Byte :=
  match t.reply with
  | some r => replyFrame t.node source (t.tag.getD 0x00) r
  | none => []

/-- The frame being sent. -/
def State.sentFrame (s : State) (c : Fin 6) : List Byte := (s.context c).frame (s.link.latchedDir.getD 0x00)

/-- R118: the head of the ready queue becomes SENDING; DIR_ADDRESS and LINK_SPEED are latched and a START is placed. -/
def sendStart (s : State) : State :=
  match s.trunk.ready with
  | [] => s
  | c :: rest =>
    if s.resetLow = false ∧ s.link.state = .idle ∧ s.link.transmitter = none then
      let s := s.setContext c { s.context c with state := .sending }
      let s := s.setTrunk { s.trunk with ready := rest }
      let s := beginFrame s
      s.setLink { s.link with latchedSpeed := some s.params.linkSpeed, transmitter := some { context := c, sent := 0 } }
    else s

/-- REPLY_SEND_START (R118). -/
def execReplySendStart (s : State) : Host.Outcome State Fault Refusal := .next (sendStart (settle s))

/-- R121: the part places a STOP; the context becomes IDLE, the link too. -/
def endSending (c : Fin 6) (s : State) : State := endFrame (dropReply c s)

/-- R121: the acknowledge bit after a byte the part sent. -/
def ackEffect (acknowledged : Bool) (s : State) : State :=
  match s.link.transmitter with
  | none => s
  | some x =>
    if acknowledged = false then setTrunkCause .undelivered (endSending x.context s)
    else if (s.sentFrame x.context).length ≤ x.sent + 1 then endSending x.context s
    else s.setLink { s.link with receiver := .ignoring, transmitter := some { x with sent := x.sent + 1 } }

/-- SEND_BYTE_ACK (R121), with the STOP that follows the last one (log 11). -/
def execSendByteAck (acknowledged : Bool) (s : State) : Host.Outcome State Fault Refusal :=
  .next (ackEffect acknowledged (settle s))

/-- R120: the bit that the part sends at a place of the current byte is a 1. -/
def State.sendsOne (s : State) (x : Transmission) (bit : Fin 8) : Bool :=
  match (s.sentFrame x.context)[x.sent]? with
  | some b => b.getLsbD bit.val
  | none => false

/-- R120: arbitration is lost in a bit that the part sends as 1: the part stops driving, and the receiver takes the frame
over. The context returns to REPLY_READY at the head of the ready queue with its reply kept whole. -/
def lostEffect (bit : Fin 8) (s : State) : State :=
  match s.link.transmitter with
  | none => s
  | some x =>
    if s.sendsOne x bit then
      let s := s.setContext x.context { s.context x.context with state := .replyReady }
      let s := s.setTrunk { s.trunk with ready := x.context :: s.trunk.ready }
      s.setLink { s.link with transmitter := none }
    else s

/-- ARBITRATION_LOST (R120). -/
def execArbitrationLost (bit : Fin 8) (s : State) : Host.Outcome State Fault Refusal := .next (lostEffect bit (settle s))

end Sys2Proof.Machine
end

