-- ==== Sys2Proof/Machine/Load.lean ====
section
/-! DEFINITION. The configuration loader: the transfer, the judging of the image, the presets, load end (R187 to R194,
12.5). -/

namespace Sys2Proof.Machine

/-! ## Parameters of an image -/

/-- The LINK_SPEED byte: any value but 01h and 04h is out of range (12.1, R189). -/
def linkSpeedOf (b : Byte) : Option LinkSpeed :=
  if b = 0x01 then some .kbit100 else if b = 0x04 then some .kbit400 else none

/-- R158: the ranges of the nine parameters. -/
def Params.inRange (p : Params) : Bool :=
  decide (112 ≤ p.dirAddress.toNat) && decide (p.dirAddress.toNat ≤ 127)
    && decide (1 ≤ p.leaseMin) && decide (p.leaseMin ≤ p.leaseMax) && decide (p.leaseMax ≤ 65535)
    && decide (p.grace ≤ 255)
    && decide (1 ≤ p.lockMax) && decide (p.lockMax ≤ 255)
    && decide (1 ≤ p.fwdDeadline) && decide (p.fwdDeadline ≤ 255)
    && decide (999 ≤ p.msDivider) && decide (p.msDivider ≤ 39999)

/-- The nine parameters at image bytes 3 to 14, if each is in range (12.5, R189 test 4). -/
def parseParams (bytes : List Byte) : Option Params :=
  match bytes with
  | [dir, speed, min1, min0, max1, max0, grace, lockMax, fwd, div1, div0, flags] =>
    match linkSpeedOf speed with
    | none => none
    | some speed =>
      let p : Params :=
        { dirAddress := dir, linkSpeed := speed, leaseMin := (half min1 min0).toNat,
          leaseMax := (half max1 max0).toNat, grace := grace.toNat, lockMax := lockMax.toNat,
          fwdDeadline := fwd.toNat, msDivider := (half div1 div0).toNat,
          trunkWatch := flags.getLsbD 0, trunkWake := flags.getLsbD 1 }
      if flags.toNat < 4 ∧ p.inRange = true then some p else none
  | _ => none

/-! ## Presets of an image -/

/-- `n` attribute pairs of 3 bytes each, and the bytes after them. -/
def takePairs : Nat → List Byte → Option (List Attr × List Byte)
  | 0, rest => some ([], rest)
  | n + 1, id :: v1 :: v0 :: rest =>
    match takePairs n rest with
    | some (pairs, rest) => some ({ id := id, value := half v1 v0 } :: pairs, rest)
    | none => none
  | _ + 1, _ => none

/-- One preset and the bytes after it. The fields of 12.5 take 6 + t + 3a bytes and a preset occupies 7 + t + 3a (R189):
the byte after the pairs belongs to the preset and is given no meaning (log 6). -/
def parsePreset (bytes : List Byte) : Option (Preset × List Byte) :=
  match bytes with
  | [] => none
  | t :: rest =>
    match rest.drop t.toNat with
    | cls :: reach :: visibility :: flags :: a :: rest' =>
      match takePairs a.toNat rest' with
      | some (attrs, _ :: rest'') =>
        some ({ tag := rest.take t.toNat, cls := cls, reach := reach, visibility := visibility, flags := flags,
                attrs := attrs }, rest'')
      | _ => none
    | _ => none

/-- R189 test 3: a walk over `n` presets that ends exactly at the end of the bytes. -/
def parsePresets : Nat → List Byte → Option (List Preset)
  | 0, [] => some []
  | 0, _ :: _ => none
  | n + 1, bytes =>
    match parsePreset bytes with
    | some (p, rest) =>
      match parsePresets n rest with
      | some ps => some (p :: ps)
      | none => none
    | none => none

/-! ## Judging the image -/

/-- R188: the byte the memory shifts out at address `k`; where the operand lists none, a byte of the memory's own choosing
(log 7). -/
def memoryAt (bytes : List Byte) (k : Nat) : Byte := bytes.getD k (Config.memoryByte k)

/-- R189: the whole image, of `n` bytes, judged on sum, preset count, structure and parameters. -/
def judgeImage (image : List Byte) : Option (Params × List Preset) :=
  let n := image.length
  let summed := image.take (n - 2)
  let sum := (summed.map BitVec.toNat).foldl (· + ·) 0
  let count := (image.getD 15 0).toNat
  if (half (image.getD (n - 2) 0) (image.getD (n - 1) 0)).toNat = sum % 65536 ∧ count ≤ 8 then
    match parseParams ((summed.drop 3).take 12), parsePresets count (summed.drop 16) with
    | some p, some presets => some (p, presets)
    | _, _ => none
  else none

/-- R188, R189: the bytes that the loader has read, judged: at most 3 of them where it stopped at the marker or the
length, a whole image of at least 18 otherwise. -/
def judgeRead (read : List Byte) : Option (Params × List Preset) := if 18 ≤ read.length then judgeImage read else none

/-! ## The transfer (R187, R188) -/

/-- What happens on CFC and CFD: a condition of the loader's, a byte it sends with the memory's acknowledge, a byte the
memory shifts out with the loader's. -/
inductive ConfigEvent where
  | start | restart | stop
  | send (value : Byte) (acknowledged : Bool)
  | receive (value : Byte) (acknowledged : Bool)
  deriving DecidableEq, Repr

/-- The length that an image declares in its second and third byte. -/
def imageLength (bytes : List Byte) : Nat := (half (memoryAt bytes 1) (memoryAt bytes 2)).toNat

/-- R188: how many bytes the loader reads: the marker alone if it is wrong, three if the length is, else the whole image. -/
def bytesWanted (bytes : List Byte) : Nat :=
  if memoryAt bytes 0 ≠ 0x5A then 1
  else if 18 ≤ imageLength bytes ∧ imageLength bytes ≤ 512 then imageLength bytes
  else 3

/-- The bytes that the loader reads of what the memory shifts out. -/
def readBytes (bytes : List Byte) : List Byte := (List.range (bytesWanted bytes)).map (memoryAt bytes)

/-- R187 step 5: each byte is acknowledged but the last. -/
def receiveAll : List Byte → List ConfigEvent
  | [] => []
  | [v] => [.receive v false]
  | v :: w :: rest => .receive v true :: receiveAll (w :: rest)

/-- R187: a byte is sent; where the memory does not acknowledge it, a STOP follows at once. -/
def sendThen (value : Byte) (acknowledged : Bool) (rest : List ConfigEvent) : List ConfigEvent :=
  .send value acknowledged :: if acknowledged then rest else [.stop]

/-- R187, R188: the whole transfer, from its START to its STOP. -/
def transfer (addressAck highAck lowAck readAck : Bool) (bytes : List Byte) : List ConfigEvent :=
  .start :: sendThen 0xA0 addressAck (sendThen 0x00 highAck (sendThen 0x00 lowAck
    (.restart :: sendThen 0xA1 readAck (receiveAll (readBytes bytes) ++ [.stop]))))

/-- A byte that the memory refused to acknowledge. -/
def ConfigEvent.refused : ConfigEvent → Bool
  | .send _ acknowledged => !acknowledged
  | .start | .restart | .stop | .receive _ _ => false

/-- The byte that an event brings from the memory. -/
def ConfigEvent.received : ConfigEvent → Option Byte
  | .receive v _ => some v
  | .start | .restart | .stop | .send _ _ => none

/-- R187, R190: the loader's phase after a transfer. A missing acknowledge gives ABSENT. ABSENT and REJECTED leave the
nine defaults and no presets. -/
def readPhase (line : List ConfigEvent) : LoadPhase :=
  if line.any ConfigEvent.refused then .judged .absent Params.defaults [] 0 0
  else
    match judgeRead (line.filterMap ConfigEvent.received) with
    | some (p, presets) => .judged .loaded p presets 0 0
    | none => .judged .rejected Params.defaults [] 0 0

/-- CONFIG_READ (R187): the transfer completes. -/
def execConfigRead (addressAck highAck lowAck readAck : Bool) (bytes : List Byte) (s : State) :
    Host.Outcome State Fault Refusal :=
  .next (
    let s := settle s
    if s.loader.phase = .reading then
      s.setLoader { s.loader with phase := readPhase (transfer addressAck highAck lowAck readAck bytes) }
    else s)

/-! ## Presets -/

/-- R191: attribute ids are 1 to 254 and strictly ascending. -/
def idsAscend : List Attr → Bool
  | [] => true
  | [a] => decide (1 ≤ a.id.toNat) && decide (a.id.toNat ≤ 254)
  | a :: b :: rest => decide (1 ≤ a.id.toNat) && decide (a.id.toNat < b.id.toNat) && idsAscend (b :: rest)

/-- R192: the entry a preset gives, if its own fields pass the tests of R191. -/
def presetEntry (p : Preset) : Option Entry :=
  if 1 ≤ p.tag.length ∧ p.tag.length ≤ 16 ∧ p.attrs.length ≤ 6 ∧ idsAscend p.attrs = true then
    match reachOf p.reach, visibilityOf p.visibility with
    | some reach, some visibility =>
      some { origin := .loc, tag := p.tag, cls := p.cls, reach := reach, visibility := visibility,
             watch := p.flags.getLsbD 0, wake := p.flags.getLsbD 1, leaseLength := none, life := .live none,
             lock := none, attrs := p.attrs, marks := {} }
    | _, _ => none
  else none

/-- R191, R192: a preset that passes is allocated from the head of the free list; one that does not is skipped. -/
def placePreset (p : Preset) (s : State) : Option State :=
  match presetEntry p with
  | none => none
  | some e => if (s.findTag e.tag).isSome then none else (allocate e s).map (fun r => r.1)

/-- PRESET_CREATE (R191, R192): the next preset of the image is judged, and created or skipped. -/
def execPresetCreate (s : State) : Host.Outcome State Fault Refusal :=
  .next (
    let s := settle s
    match s.loader.phase with
    | .judged outcome set (p :: left) made skipped =>
      match placePreset p s with
      | some t => t.setLoader { t.loader with phase := .judged outcome set left (made + 1) skipped }
      | none => s.setLoader { s.loader with phase := .judged outcome set left made (skipped + 1) }
    | .judged _ _ [] _ _ | .held | .reading | .ended => s)

/-- LOAD_END (R194): outcome and counts take their values, the parameter set is put in force, LOAD is set, LOADING
clears, receiver and arbiter are opened. It waits for the last preset to be judged. -/
def execLoadEnd (s : State) : Host.Outcome State Fault Refusal :=
  .next (
    let s := settle s
    match s.loader.phase with
    | .judged outcome set [] made skipped =>
      setFlag .load
        ((s.setParams set).setLoader
          { phase := .ended, outcome := outcome, presetsLoaded := made, presetsSkipped := skipped })
    | .judged _ _ (_ :: _) _ _ | .held | .reading | .ended => s)

end Sys2Proof.Machine
end

