-- ==== Sys2Proof/Machine/Resets.lean ====
section
/-! DEFINITION. Full reset, the release of RESET, host reset and the release of HRST (R25, R80, R105, R138, R147, R160,
R172, R184 to R186). -/

namespace Sys2Proof.Machine

/-- FULL_RESET (R186): every block at its full-reset state; what was in progress is abandoned. The queue of commands, the
HRST pin and the model's count of idle milliseconds are outside the part. -/
def execFullReset (s : State) : Host.Outcome State Fault Refusal :=
  .next { State.reset with
    pending := s.pending
    time := { TimeBase.reset with idleTicks := s.time.idleTicks }
    port := { HostPort.reset with hrstLow := s.port.hrstLow } }

/-- LOAD_START (R186): RESET rises; the load begins and the time base starts. -/
def execLoadStart (s : State) : Host.Outcome State Fault Refusal :=
  .next (
    let s := settle s
    if s.loader.phase = .held then s.setLoader { s.loader with phase := .reading } else s)

/-- R80: a lock whose holder is LOCAL is removed from its entry, without a mark. -/
def dropLocalLock (x : Slot) : Slot :=
  { x with entry := x.entry.map (fun e =>
      match e.lock with
      | none => e
      | some k => if k.holder = .loc then { e with lock := none } else e) }

/-- R105: a LOCAL search context becomes IDLE. -/
def idleLocalSearch : SearchContext → SearchContext
  | .idle => .idle
  | .running r => match r.owner with | .loc => .idle | .trunk _ => .running r
  | .done code r => match r.owner with | .loc => .idle | .trunk _ => .done code r

/-- R185: the effects of a host reset, applied in one event. A transaction in progress ends with it (R147). -/
def hostResetEffect (s : State) : State :=
  let s := answerDeferred s
  { s with
    dir := { s.dir with slots := mapAll dropLocalLock s.dir.slots, collectCursor := 255 }
    search := mapAll idleLocalSearch s.search
    port := { HostPort.reset with hrstLow := true }
    notify := Notify.reset
    doze := Doze.reset }

/-- HOST_RESET (R185): taken when HRST falls; a pin already low does not fall (log 2). -/
def execHostReset (s : State) : Host.Outcome State Fault Refusal :=
  .next (let s := settle s; if s.port.hrstLow then s else hostResetEffect s)

/-- HOST_RESET_RELEASE (R147): HRST rises; the next fall of HSEL begins a transaction. -/
def execHostResetRelease (s : State) : Host.Outcome State Fault Refusal :=
  .next (let s := settle s; s.setPort { s.port with hrstLow := false })

end Sys2Proof.Machine
end

