-- ==== Sys2Proof/Machine/SearchRows.lean ====
section
/-! DEFINITION. The Search grant: matching, the step, the search end and the SEEK end (R89, R90, R94 to R99, R132, R133). -/

namespace Sys2Proof.Machine

/-! ## Matching -/

/-- R89 conditions 3 and 4, R90: the tag test. -/
def tagMatches (pattern : List Byte) (mask : Half) (exact : Bool) (tag : List Byte) : Bool :=
  (if exact then decide (tag.length = pattern.length) else decide (pattern.length ≤ tag.length))
    && (List.range pattern.length).all (fun i => !mask.getLsbD i || decide (tag[i]? = pattern[i]?))

/-- R89, condition 5. -/
def classMatches (filter : Option Byte) (cls : Byte) : Bool :=
  match filter with
  | none => true
  | some k => decide (cls = k)

/-- R89: an entry matches a search. -/
def Search.fits (r : Search) (e : Entry) : Bool :=
  (e.life.isLive || (r.includeStale && e.life.isStale))
    && (decide (r.owner = .loc) || decide (e.visibility ≠ .closed))
    && tagMatches r.pattern r.mask r.exact e.tag
    && classMatches r.classFilter e.cls

/-- The entry in slot `i` matches; FREE slots never match. -/
def State.slotFits (s : State) (r : Search) (i : SlotNo) : Bool :=
  match s.entryOf i with
  | some e => r.fits e
  | none => false

/-! ## The step -/

/-- R94: the slot at the cursor is examined. -/
def examineSlot (s : State) (i : SlotNo) (r : Search) : Search :=
  { r with
    results := if s.slotFits r i then r.results ++ [s.handleOf i] else r.results
    cursor := i.val + 1 }

/-- R94, R97: at most `n` slots are examined, up to the search end. -/
def walk (s : State) : Nat → Search → Search × Option EndCode
  | 0, r => (r, none)
  | n + 1, r =>
    if h : r.cursor < 256 then
      let i : SlotNo := ⟨r.cursor, h⟩
      let next := examineSlot s i r
      if s.slotFits r i = true ∧ r.limit ≤ next.results.length then (next, some .filled)
      else if next.cursor = 256 then (next, some .complete)
      else walk s n next
    else (r, some .complete)

/-- R95, R96: a STEPPED step examines 16 slots, a BURST step every slot that remains. -/
def stepSlots (burst : Bool) : Nat := if burst then 256 else 16

/-! ## SEEK end -/

/-- R132, steps 2 to 4: the items that pass re-validation, as their entries stand at this grant. -/
def validatedItems (s : State) (requester : Byte) (results : List Handle) : List Item :=
  results.filterMap (fun h =>
    match revalidated s h with
    | some (_, e) =>
      some { handle := h, reach := e.reach, cls := e.cls, visibility := e.visibility, guarded := needsConsent requester e }
    | none => none)

/-- R133: an item's entry has WAKE on. -/
def itemWakes (s : State) (x : Item) : Bool :=
  match s.lookup x.handle with
  | some (_, e) => e.wake
  | none => false

/-- R133: the wake event of a SEEK end in DOZE, if some guarded item's entry has WAKE on. -/
def seekWake (items : List Item) (requester ticket : Byte) (s : State) : State :=
  match (items.filter (fun x => x.guarded)).find? (itemWakes s) with
  | some x => wakeEvent (.seek x.handle requester ticket) s
  | none => s

/-- R132, R133: the SEEK end of trunk context `c`, with the result handles and the cursor handed over. -/
def seekEnd (c : Fin 6) (results : List Handle) (cursor : Nat) (s : State) : State :=
  let t := s.context c
  let items := validatedItems s t.node results
  let s := s.setContext c { t with linked := none, results := items, nextCursor := some cursor }
  if items.any (fun x => x.guarded) then
    match s.doze.host with
    | .awake =>
      setFlag .fwd (s.setContext c { s.context c with state := .awaitingHost, deadline := some s.params.fwdDeadline })
    | .doze =>
      seekWake items t.node t.ticket
        (buildReply c (seekReply .deferred cursor (items.filter (fun x => !x.guarded))) s)
  else buildReply c (seekReply .ok cursor items) s

/-! ## The grant -/

/-- R97 to R99: what a step leaves of search context `k`. -/
def endSearch (k : Fin 4) (r : Search) (e : Option EndCode) (s : State) : State :=
  match e with
  | none => s.setSearch k (.running r)
  | some code =>
    match r.owner with
    | .loc => setFlag .srch (s.setSearch k (.done code r))
    | .trunk c => seekEnd c r.results r.cursor (s.setSearch k .idle)

/-- R28, R94: the grant serves one RUNNING context and records it. -/
def searchGrant (s : State) : State :=
  if s.nextGrant = some .search then
    match s.nextSearch with
    | none => s
    | some k =>
      match s.searchContext k with
      | .running r =>
        let step := walk s (stepSlots r.burst) r
        endSearch k step.1 step.2 (s.setArb { lastGranted := .search, lastServed := k })
      | .idle | .done _ _ => s
  else s

/-- SEARCH_STEP (R94). -/
def execSearchStep (s : State) : Host.Outcome State Fault Refusal := .next (searchGrant (settle s))

end Sys2Proof.Machine
end

