-- ==== Sys2Proof/Machine/Sweep.lean ====
section
/-! DEFINITION. The sweep (R60 to R65). -/

namespace Sys2Proof.Machine

/-- R61, step 1: a lock whose lapse is at most the charge is removed and LOCK_LAPSED marked; another is reduced. -/
def sweepLock (charge : Nat) (i : SlotNo) (e : Entry) (s : State) : State :=
  match e.lock with
  | none => s
  | some k =>
    if k.lapse ≤ charge then addMark i .lockLapsed (s.setEntry i { e with lock := none })
    else s.setEntry i { e with lock := some { k with lapse := k.lapse - charge } }

/-- R62, step 2, for an entry that was LIVE when the sweep reached it: a lease used up makes it STALE. -/
def sweepLease (charge grace : Nat) (i : SlotNo) (e : Entry) (s : State) : State :=
  match e.life with
  | .live (some r) =>
    if r ≤ charge then addMark i .stale (s.setEntry i { e with life := .stale grace })
    else s.setEntry i { e with life := .live (some (r - charge)) }
  | .live none | .stale _ | .spent => s

/-- R63, R64, step 3, for an entry that was STALE when the sweep reached it: a locked one waits at grace 0, an unlocked
one whose grace is used up is retired by time. -/
def sweepGrace (charge : Nat) (i : SlotNo) (e : Entry) (s : State) : State :=
  match e.life with
  | .stale g =>
    if e.lock.isSome ∨ charge < g then s.setEntry i { e with life := .stale (g - charge) }
    else retireSide i e s
  | .live _ | .spent => s

/-- R60: the work at one slot, steps 1, 2 and 3 in order; FREE and SPENT slots are passed unchanged, and an entry made STALE at step 2 is not taken through step 3. -/
def sweepSlot (charge grace : Nat) (s : State) (i : SlotNo) : State :=
  match s.entryOf i with
  | none => s
  | some e =>
    if e.life.isSpent then s
    else
      let s := sweepLock charge i e s
      match s.entryOf i with
      | none => s
      | some e => if e.life.isLive then sweepLease charge grace i e s else sweepGrace charge i e s

/-- R60: every slot in ascending order, with the charge and GRACE as they stood at the grant. -/
def sweepAll (charge grace : Nat) (s : State) : State := allSlots.foldl (sweepSlot charge grace) s

/-- R58, R60: the grant takes all of seconds owed as its charge and sets it to 0. -/
def sweepGrant (s : State) : State :=
  if s.nextGrant = some .sweep then
    let granted := recordGrant .sweep s
    sweepAll s.time.owed s.params.grace (granted.setTime { s.time with owed := 0 })
  else s

/-- SWEEP (R60). -/
def execSweep (s : State) : Host.Outcome State Fault Refusal := .next (sweepGrant (settle s))

end Sys2Proof.Machine
end

