-- ==== Sys2Proof/Machine/Time.lean ====
section
/-! DEFINITION. The meanings of the time rows: the ticks, the fault and its release, the expiry of deadlines (R53 to R57,
R110 to R112, R134). -/

namespace Sys2Proof.Machine

/-- MS_TICK (R53, R110): the divider runs to its end. -/
def execMsTick (tkc tkd : LineMs) (s : State) : Host.Outcome State Fault Refusal :=
  .next (msEffect tkc tkd (settle s))

/-- TEN_MS_TICK (R55, R134): the 10-ms tick that a tenth millisecond tick has produced. -/
def execTenMsTick (s : State) : Host.Outcome State Fault Refusal := .next (settleTenMs s)

/-- SECOND_TICK (R55, R57): the second tick that a hundredth 10-ms tick has produced. -/
def execSecondTick (s : State) : Host.Outcome State Fault Refusal := .next (settleSecond s)

/-- DEADLINE_EXPIRY (R134): the contexts whose deadline has reached 0 (log 14). -/
def execDeadlineExpiry (s : State) : Host.Outcome State Fault Refusal := .next (settleExpiry s)

/-- TRUNK_FAULT (R111): a low run has reached 25. -/
def execTrunkFault (s : State) : Host.Outcome State Fault Refusal := .next (settleFault s)

/-- FAULT_RELEASE (R112). -/
def execFaultRelease (s : State) : Host.Outcome State Fault Refusal := .next (settleRelease s)

end Sys2Proof.Machine
end

