-- ==== Sys2Proof/Machine/TrunkRequests.lean ====
section
/-! DEFINITION. The meanings of the Trunk grants: the nine request kinds and the malformed request (R128 to R130). -/

namespace Sys2Proof.Machine

/-- A reply that is its code alone (R129). -/
def plainReply (kind : Byte) (code : ResultCode) : Reply := { kind := kind, code := code, body := [] }

/-- The grant of a request whose reply is its code alone. -/
def servePlain (kind : Byte) (c : Fin 6) (s : State) (r : Except ResultCode State) : State :=
  match r with
  | .ok t => buildReply c (plainReply kind .ok) t
  | .error code => buildReply c (plainReply kind code) s

/-! ## ANNOUNCE -/

/-- The reply: code, handle, granted lease. -/
def announceReply (code : ResultCode) (h : Handle) (lease : Nat) : Reply :=
  { kind := 0x81, code := code, body := halfBytes h ++ countBytes lease }

def serveAnnounce (tag : List Byte) (cls visibility : Byte) (lease : Half) (c : Fin 6) (s : State) : State :=
  match announce (s.context c).node tag cls visibility lease s with
  | .ok (t, i, g) => buildReply c (announceReply .ok (t.handleOf i) g) t
  | .error code => buildReply c (announceReply code nullHandle 0) s

def selectAnnounce (r : Option Request) : Option (Fin 6 → State → State) :=
  match r with
  | some (.announce tag cls visibility lease) => some (serveAnnounce tag cls visibility lease)
  | _ => none

/-- ANNOUNCE (R34 to R38). -/
def execAnnounce (s : State) : Host.Outcome State Fault Refusal := .next (trunkGrant selectAnnounce (settle s))

/-! ## REFRESH -/

/-- The reply: code, lease remaining. -/
def refreshReply (code : ResultCode) (remaining : Nat) : Reply :=
  { kind := 0x82, code := code, body := countBytes remaining }

def serveRefresh (h : Handle) (c : Fin 6) (s : State) : State :=
  match refresh (s.context c).node h s with
  | .ok (t, remaining) => buildReply c (refreshReply .ok remaining) t
  | .error code => buildReply c (refreshReply code 0) s

def selectRefresh (r : Option Request) : Option (Fin 6 → State → State) :=
  match r with
  | some (.refresh h) => some (serveRefresh h)
  | _ => none

/-- REFRESH (R44). -/
def execRefresh (s : State) : Host.Outcome State Fault Refusal := .next (trunkGrant selectRefresh (settle s))

/-! ## WITHDRAW -/

def serveWithdraw (h : Handle) (c : Fin 6) (s : State) : State :=
  servePlain 0x83 c s (withdraw (s.context c).node h s)

def selectWithdraw (r : Option Request) : Option (Fin 6 → State → State) :=
  match r with
  | some (.withdraw h) => some (serveWithdraw h)
  | _ => none

/-- WITHDRAW (R47). -/
def execWithdraw (s : State) : Host.Outcome State Fault Refusal := .next (trunkGrant selectWithdraw (settle s))

/-! ## SEEK (R130, R92) -/

/-- R92: the search that a SEEK asks for; options bit 1 is exact, bit 4 class-present. -/
def trunkSearch (c : Fin 6) (start options cls : Byte) (pattern : List Byte) (mask : Half) : Search :=
  { owner := .trunk c, burst := false, pattern := pattern, mask := mask, exact := options.getLsbD 1,
    classFilter := if options.getLsbD 4 then some cls else none,
    includeStale := false, start := start.toNat, cursor := start.toNat, limit := 4, results := [] }

/-- R92, R130: search context `k` is claimed and linked to the trunk context, which becomes SERVING. -/
def claimSearch (c : Fin 6) (k : Fin 4) (r : Search) (s : State) : State :=
  (s.setSearch k (.running r)).setContext c { s.context c with state := .serving, linked := some k }

def serveSeek (start options cls : Byte) (pattern : List Byte) (mask : Half) (c : Fin 6) (s : State) : State :=
  if 1 ≤ pattern.length ∧ pattern.length ≤ 16 then
    match s.idleSearch with
    | some k => claimSearch c k (trunkSearch c start options cls pattern mask) s
    | none => buildReply c (seekReply .busy 0 []) s
  else buildReply c (seekReply .badParam 0 []) s

def selectSeek (r : Option Request) : Option (Fin 6 → State → State) :=
  match r with
  | some (.seek start options cls pattern mask) => some (serveSeek start options cls pattern mask)
  | _ => none

/-- SEEK (R130). -/
def execSeek (s : State) : Host.Outcome State Fault Refusal := .next (trunkGrant selectSeek (settle s))

/-! ## FETCH -/

/-- The reply body: class, reach, visibility, the pairs with their count, the tag with its length. -/
def fetchBody (e : Entry) : List Byte :=
  [e.cls, reachByte e.reach, e.visibility.toByte, BitVec.ofNat 8 e.attrs.length]
    ++ e.attrs.flatMap (fun a => a.id :: halfBytes a.value)
    ++ BitVec.ofNat 8 e.tag.length :: e.tag

def fetchReply (r : Except ResultCode Entry) : Reply :=
  match r with
  | .ok e => { kind := 0x85, code := .ok, body := fetchBody e }
  | .error code => { kind := 0x85, code := code, body := [0x00, 0x00, 0x00, 0x00, 0x00] }

def serveFetch (h : Handle) (c : Fin 6) (s : State) : State := buildReply c (fetchReply (fetch (s.context c).node h s)) s

def selectFetch (r : Option Request) : Option (Fin 6 → State → State) :=
  match r with
  | some (.fetch h) => some (serveFetch h)
  | _ => none

/-- FETCH (R50). -/
def execFetch (s : State) : Host.Outcome State Fault Refusal := .next (trunkGrant selectFetch (settle s))

/-! ## Attribute edits -/

def servePostAttr (h : Handle) (id : Byte) (value : Half) (c : Fin 6) (s : State) : State :=
  servePlain 0x86 c s (putAttr (.node (s.context c).node) false h id value s)

def selectPostAttr (r : Option Request) : Option (Fin 6 → State → State) :=
  match r with
  | some (.postAttr h id value) => some (servePostAttr h id value)
  | _ => none

/-- POST_ATTR (R41, R42). -/
def execPostAttr (s : State) : Host.Outcome State Fault Refusal := .next (trunkGrant selectPostAttr (settle s))

def serveDropAttr (h : Handle) (id : Byte) (c : Fin 6) (s : State) : State :=
  servePlain 0x87 c s (dropAttr (.node (s.context c).node) false h id s)

def selectDropAttr (r : Option Request) : Option (Fin 6 → State → State) :=
  match r with
  | some (.dropAttr h id) => some (serveDropAttr h id)
  | _ => none

/-- TRUNK_DROP_ATTR (R41, R43). -/
def execTrunkDropAttr (s : State) : Host.Outcome State Fault Refusal := .next (trunkGrant selectDropAttr (settle s))

/-! ## CLAIM and YIELD -/

/-- The reply: code, then the granted hold, the holder, or 0 (R76). -/
def claimReply (code : ResultCode) (b : Byte) : Reply := { kind := 0x88, code := code, body := [b] }

def serveClaim (h : Handle) (hold : Byte) (c : Fin 6) (s : State) : State :=
  match judgeClaim (s.context c).node h hold s with
  | .error code => buildReply c (claimReply code 0x00) s
  | .ok (i, e) =>
    match claimLock (.node (s.context c).node) hold i e s with
    | .ok (t, g) => buildReply c (claimReply .ok (BitVec.ofNat 8 g)) t
    | .error k => buildReply c (claimReply .locked k.holder.toByte) s

def selectClaim (r : Option Request) : Option (Fin 6 → State → State) :=
  match r with
  | some (.claim h hold) => some (serveClaim h hold)
  | _ => none

/-- CLAIM (R74 to R76). -/
def execClaim (s : State) : Host.Outcome State Fault Refusal := .next (trunkGrant selectClaim (settle s))

def serveYield (h : Handle) (c : Fin 6) (s : State) : State := servePlain 0x89 c s (yield (s.context c).node h s)

def selectYield (r : Option Request) : Option (Fin 6 → State → State) :=
  match r with
  | some (.yield h) => some (serveYield h)
  | _ => none

/-- YIELD (R78). -/
def execYield (s : State) : Host.Outcome State Fault Refusal := .next (trunkGrant selectYield (settle s))

/-! ## A malformed request -/

/-- R128: kind FFh, BAD_PARAM, and the kind byte as received. -/
def serveReject (c : Fin 6) (s : State) : State :=
  buildReply c { kind := 0xFF, code := .badParam, body := [(s.context c).kind.getD 0x00] } s

def selectReject (r : Option Request) : Option (Fin 6 → State → State) :=
  match r with
  | none => some serveReject
  | some _ => none

/-- REJECT (R128). -/
def execReject (s : State) : Host.Outcome State Fault Refusal := .next (trunkGrant selectReject (settle s))

end Sys2Proof.Machine
end

