-- ==== Sys2Proof/Machine/Window.lean ====
section
/-! DEFINITION. The meanings of the window writes (R146 to R153, R169 to R171, R175, R181, R197, R198). -/

namespace Sys2Proof.Machine

/-- R147: writes act from load end on, while HRST is high. -/
def State.portOpen (s : State) : Bool := s.loadEnded && !s.port.hrstLow

/-- R147: a write that the port takes; else the byte is ignored. -/
def portWrite (write : State → State) (s : State) : State := if s.portOpen then write s else s

/-! ## Control writes (R149) -/

/-- R149, R150: an EMPTY slot is POSTED and joins the tail of the queue. -/
def postSlot (n : Fin 4) (s : State) : State :=
  if (s.commandSlot n).state = .empty then
    s.setPort { s.port with
      slots := s.port.slots.set n { s.commandSlot n with state := .posted }
      postOrder := s.port.postOrder ++ [n] }
  else s

/-- POST (R149, R150). -/
def execPost (slot : Fin 4) (s : State) : Host.Outcome State Fault Refusal := .next (portWrite (postSlot slot) (settle s))

/-- R153: a DONE slot becomes EMPTY with every byte 00h. -/
def releaseSlot (n : Fin 4) (s : State) : State :=
  if (s.commandSlot n).state = .done then s.setCommandSlot n CommandSlot.cleared else s

/-- RELEASE (R153). -/
def execRelease (slot : Fin 4) (s : State) : Host.Outcome State Fault Refusal :=
  .next (portWrite (releaseSlot slot) (settle s))

/-- R152: a POSTED slot leaves the queue and becomes DONE with ABORTED; CMD is set. -/
def abortSlot (n : Fin 4) (s : State) : State :=
  if (s.commandSlot n).state = .posted then
    setFlag .cmd (s.setPort { s.port with
      slots := s.port.slots.set n
        { (s.commandSlot n).setByte Offset.result ResultCode.aborted.toByte with state := .done }
      postOrder := s.port.postOrder.filter (fun k => decide (k ≠ n)) })
  else s

/-- ABORT (R152). -/
def execAbort (slot : Fin 4) (s : State) : Host.Outcome State Fault Refusal := .next (portWrite (abortSlot slot) (settle s))

/-! ## Notification and doze control -/

/-- FLAGS_WRITE (R169, R181). -/
def execFlagsWrite (value : Byte) (s : State) : Host.Outcome State Fault Refusal :=
  .next (portWrite (writeFlags value) (settle s))

/-- TRUNK_CAUSE_WRITE (R170). -/
def execTrunkCauseWrite (value : Byte) (s : State) : Host.Outcome State Fault Refusal :=
  .next (portWrite (writeCause value) (settle s))

/-- ENABLES_WRITE (R171). -/
def execEnablesWrite (value : Byte) (s : State) : Host.Outcome State Fault Refusal :=
  .next (portWrite (writeEnables value) (settle s))

/-- R175: both bits are stored; the wake record stands as it was. -/
def storePower (h : HostState) (value : Byte) (s : State) : State :=
  s.setDoze { s.doze with host := h, wakeEnable := value.getLsbD 1 }

/-- R137, R175: DOZE is written; every AWAITING_HOST context is answered DEFERRED. -/
def writeDoze (value : Byte) (s : State) : State := storePower .doze value (answerDeferred s)

/-- POWER_DOZE (R175): a write whose host state bit is 0. -/
def execPowerDoze (value : Byte) (s : State) : Host.Outcome State Fault Refusal :=
  .next (portWrite (writeDoze value) (settle s))

/-- POWER_AWAKE (R175): a write whose host state bit is 1. -/
def execPowerAwake (value : Byte) (s : State) : Host.Outcome State Fault Refusal :=
  .next (portWrite (storePower .awake value) (settle s))

/-! ## Any other window byte -/

/-- The slot and the offset a window address names, below C0h (12.3). -/
def slotAddress (address : Byte) : Option (Fin 4 × Fin 48) :=
  if h : address.toNat < 192 then
    some (⟨address.toNat / 48, by omega⟩, ⟨address.toNat % 48, Nat.mod_lt _ (by decide)⟩)
  else none

/-- R148, R197: a field is any byte of a slot but CONTROL/STATE, RESULT and the spare bytes. -/
def isField (o : Fin 48) : Bool :=
  decide (o ≠ Offset.control) && decide (o ≠ Offset.result) && decide (o.val < Offset.spare.val)

/-- R148, R149, R198: a field write is stored in an EMPTY slot; every other write of this row is ignored. -/
def writeByte (address value : Byte) (s : State) : State :=
  match slotAddress address with
  | some (n, o) =>
    if isField o = true ∧ (s.commandSlot n).state = .empty then
      s.setCommandSlot n ((s.commandSlot n).setByte o value)
    else s
  | none => s

/-- WINDOW_WRITE (R146, R148). -/
def execWindowWrite (address value : Byte) (s : State) : Host.Outcome State Fault Refusal :=
  .next (portWrite (writeByte address value) (settle s))

end Sys2Proof.Machine
end

