-- ==== Sys2Proof/Machine/Dispatch.lean ====
section
/-! DEFINITION. One arm for each command. -/

namespace Sys2Proof.Machine

def exec (i : Instr) (s : State) : Host.Outcome State Fault Refusal :=
  match i with
  | .fullReset => Sys2Proof.Machine.execFullReset s
  | .loadStart => Sys2Proof.Machine.execLoadStart s
  | .configRead addressAck highAck lowAck readAck bytes => Sys2Proof.Machine.execConfigRead addressAck highAck lowAck readAck bytes s
  | .presetCreate => Sys2Proof.Machine.execPresetCreate s
  | .loadEnd => Sys2Proof.Machine.execLoadEnd s
  | .hostReset => Sys2Proof.Machine.execHostReset s
  | .msTick tkc tkd => Sys2Proof.Machine.execMsTick tkc tkd s
  | .tenMsTick => Sys2Proof.Machine.execTenMsTick s
  | .secondTick => Sys2Proof.Machine.execSecondTick s
  | .sweep => Sys2Proof.Machine.execSweep s
  | .create => Sys2Proof.Machine.execCreate s
  | .amend => Sys2Proof.Machine.execAmend s
  | .putAttr => Sys2Proof.Machine.execPutAttr s
  | .dropAttr => Sys2Proof.Machine.execDropAttr s
  | .retire => Sys2Proof.Machine.execRetire s
  | .read => Sys2Proof.Machine.execRead s
  | .readAttr => Sys2Proof.Machine.execReadAttr s
  | .lock => Sys2Proof.Machine.execLock s
  | .unlock => Sys2Proof.Machine.execUnlock s
  | .searchStart => Sys2Proof.Machine.execSearchStart s
  | .searchCancel => Sys2Proof.Machine.execSearchCancel s
  | .results => Sys2Proof.Machine.execResults s
  | .searchRelease => Sys2Proof.Machine.execSearchRelease s
  | .collect => Sys2Proof.Machine.execCollect s
  | .readForward => Sys2Proof.Machine.execReadForward s
  | .answer => Sys2Proof.Machine.execAnswer s
  | .purge => Sys2Proof.Machine.execPurge s
  | .setParam => Sys2Proof.Machine.execSetParam s
  | .unknownCommand => Sys2Proof.Machine.execUnknownCommand s
  | .post slot => Sys2Proof.Machine.execPost slot s
  | .release slot => Sys2Proof.Machine.execRelease slot s
  | .abort slot => Sys2Proof.Machine.execAbort slot s
  | .flagsWrite value => Sys2Proof.Machine.execFlagsWrite value s
  | .trunkCauseWrite value => Sys2Proof.Machine.execTrunkCauseWrite value s
  | .enablesWrite value => Sys2Proof.Machine.execEnablesWrite value s
  | .powerDoze value => Sys2Proof.Machine.execPowerDoze value s
  | .powerAwake value => Sys2Proof.Machine.execPowerAwake value s
  | .windowWrite address value => Sys2Proof.Machine.execWindowWrite address value s
  | .trunkFault => Sys2Proof.Machine.execTrunkFault s
  | .faultRelease => Sys2Proof.Machine.execFaultRelease s
  | .startCondition => Sys2Proof.Machine.execStartCondition s
  | .restartCondition => Sys2Proof.Machine.execRestartCondition s
  | .stopCondition => Sys2Proof.Machine.execStopCondition s
  | .receiveByte value => Sys2Proof.Machine.execReceiveByte value s
  | .replySendStart => Sys2Proof.Machine.execReplySendStart s
  | .sendByteAck acknowledged => Sys2Proof.Machine.execSendByteAck acknowledged s
  | .arbitrationLost bit => Sys2Proof.Machine.execArbitrationLost bit s
  | .announce => Sys2Proof.Machine.execAnnounce s
  | .refresh => Sys2Proof.Machine.execRefresh s
  | .withdraw => Sys2Proof.Machine.execWithdraw s
  | .seek => Sys2Proof.Machine.execSeek s
  | .fetch => Sys2Proof.Machine.execFetch s
  | .postAttr => Sys2Proof.Machine.execPostAttr s
  | .trunkDropAttr => Sys2Proof.Machine.execTrunkDropAttr s
  | .claim => Sys2Proof.Machine.execClaim s
  | .yield => Sys2Proof.Machine.execYield s
  | .reject => Sys2Proof.Machine.execReject s
  | .searchStep => Sys2Proof.Machine.execSearchStep s
  | .deadlineExpiry => Sys2Proof.Machine.execDeadlineExpiry s
  | .hostResetRelease => Sys2Proof.Machine.execHostResetRelease s

end Sys2Proof.Machine
end

