-- ==== Sys2Proof/Machine/Port.lean ====
section
/-! DEFINITION. What the host port shows and how it takes a transaction: the bytes of the window, the groups a READ captures
whole, the commands that a WRITE transaction spells, and the edges of the port's pins (R144 to R148, R197, R198, 12.3,
12.4; log 8, log 9). -/

namespace Sys2Proof.Machine

/-! ## The bytes of the window -/

/-- A byte of a command slot as read (R148, R197). -/
def CommandSlot.shown (c : CommandSlot) (o : Fin 48) : Byte :=
  if o = Offset.control then c.state.toByte
  else if Offset.spare.val ≤ o.val then 0x00
  else c.byte o

/-- PORT STATUS: LOADING bit 0, until load end; MARKS_PENDING bit 1 (R147, R163). -/
def State.portStatus (s : State) : Byte := BitVec.ofNat 8 ((!s.loadEnded).toNat + 2 * s.marksPending.toNat)

/-- POWER: host state bit 0, wake enable bit 1 (12.1). -/
def Doze.powerByte (d : Doze) : Byte := BitVec.ofNat 8 ((decide (d.host = .awake)).toNat + 2 * d.wakeEnable.toNat)

/-- The wake record group (12.4, R180): reason, handle, requester, ticket. -/
def Doze.recordBytes (d : Doze) : List Byte :=
  match d.record with
  | none => [0x00, 0x00, 0x00, 0xFF, 0x00]
  | some (.seek h requester ticket) => 0x01 :: halfBytes h ++ [requester, ticket]
  | some (.mark h) => 0x02 :: halfBytes h ++ [0xFF, 0x00]

/-- The state counts group (12.4, R23): free, live, stale, spent. -/
def State.countsBytes (s : State) : List Byte :=
  countBytes s.freeCount ++ countBytes s.liveCount ++ countBytes s.staleCount ++ countBytes s.spentCount

/-- The parameter copies group, in image order (12.4, 12.5). -/
def Params.bytes (p : Params) : List Byte :=
  [p.dirAddress, p.linkSpeed.toByte] ++ countBytes p.leaseMin ++ countBytes p.leaseMax
    ++ [BitVec.ofNat 8 p.grace, BitVec.ofNat 8 p.lockMax, BitVec.ofNat 8 p.fwdDeadline]
    ++ countBytes p.msDivider
    ++ [BitVec.ofNat 8 (p.trunkWatch.toNat + 2 * p.trunkWake.toNat)]

/-- The groups: state counts at D0h, wake record at D8h, parameter copies at E0h (12.4). -/
def State.group (s : State) (first : Byte) : Option (List Byte) :=
  if first = 0xD0 then some s.countsBytes
  else if first = 0xD8 then some s.doze.recordBytes
  else if first = 0xE0 then some s.params.bytes
  else none

/-- The byte at a window address outside the slots (12.4); unused addresses read 00h (R198). -/
def State.highByte (s : State) (a : Nat) : Byte :=
  if a = 0xC0 then s.portStatus
  else if a = 0xC1 then s.notify.flags
  else if a = 0xC2 then s.notify.enables
  else if a = 0xC3 then s.notify.cause
  else if a = 0xC4 then s.doze.powerByte
  else if a = 0xC5 then BitVec.ofNat 8 s.time.owed
  else if a = 0xC6 then s.loader.outcome.toByte
  else if a = 0xC7 then BitVec.ofNat 8 s.loader.presetsLoaded
  else if a = 0xC8 then BitVec.ofNat 8 s.loader.presetsSkipped
  else if 0xD0 ≤ a ∧ a < 0xD8 then s.countsBytes.getD (a - 0xD0) 0x00
  else if 0xD8 ≤ a ∧ a < 0xDD then s.doze.recordBytes.getD (a - 0xD8) 0x00
  else if 0xE0 ≤ a ∧ a < 0xEC then s.params.bytes.getD (a - 0xE0) 0x00
  else 0x00

/-- The byte a READ captures at an address (R145, R146), in the state where the ticks produced so far have been taken. -/
def State.windowByte (s : State) (address : Byte) : Byte :=
  let s := settle s
  match slotAddress address with
  | some (n, o) => (s.commandSlot n).shown o
  | none => s.highByte address.toNat

/-! ## A transaction (R144, R145) -/

/-- Bits gathered into bytes, most significant first; a partial byte at the end is discarded. -/
def bytesOf : List Bool → List Byte
  | b7 :: b6 :: b5 :: b4 :: b3 :: b2 :: b1 :: b0 :: rest =>
    BitVec.ofNat 8 (128 * b7.toNat + 64 * b6.toNat + 32 * b5.toNat + 16 * b4.toNat + 8 * b3.toNat + 4 * b2.toNat
      + 2 * b1.toNat + b0.toNat) :: bytesOf rest
  | _ => []

/-- The eight bits of a byte, most significant first. -/
def bitsOf (b : Byte) : List Bool := [7, 6, 5, 4, 3, 2, 1, 0].map (fun k => b.getLsbD k)

/-- Opcode READ, WRITE, or void (R144). -/
inductive Opcode where
  | read | write | void
  deriving DecidableEq, Repr

def opcodeOf (b : Byte) : Opcode := if b = 0x03 then .read else if b = 0x02 then .write else .void

/-- The command that the write of one byte to one address is: a control write of 01h to 03h, a write to FLAGS, ENABLES,
TRUNK CAUSE or POWER, or a write to any other byte. -/
def writeCommand (address value : Byte) : Instr :=
  if address = 0xC1 then .flagsWrite value
  else if address = 0xC2 then .enablesWrite value
  else if address = 0xC3 then .trunkCauseWrite value
  else if address = 0xC4 then (if value.getLsbD 0 then .powerAwake value else .powerDoze value)
  else
    match slotAddress address with
    | some (n, o) =>
      if o = Offset.control then
        if value = 0x01 then .post n
        else if value = 0x02 then .release n
        else if value = 0x03 then .abort n
        else .windowWrite address value
      else .windowWrite address value
    | none => .windowWrite address value

/-- The writes of a run of data bytes from an address on; FFh is followed by 00h. -/
def writeCommands (address : Byte) : List Byte → List Instr
  | [] => []
  | v :: rest => writeCommand address v :: writeCommands (address + 1) rest

/-- R144: the commands that the bytes of a transaction spell, in order: those of its data bytes under WRITE, none under
READ or a void opcode. -/
def transactionCommands (bytes : List Byte) : List Instr :=
  match bytes with
  | opcode :: address :: data =>
    match opcodeOf opcode with
    | .write => writeCommands address data
    | .read | .void => []
  | _ => []

/-- R144, R145: the commands that the bits sampled between HSEL falling and HSEL rising spell. -/
def transactionOf (bits : List Bool) : List Instr := transactionCommands (bytesOf bits)

/-! ## The pins HSEL, HSCK, HSDI and HSDO (R144, R145, R147)

The table has no row for an edge of these pins. An edge is taken on the state as it is; a byte that a WRITE completes joins
the tail of the queue as the command it is (log 8). -/

/-- The transaction in progress replaced. -/
def State.setTransaction (s : State) (x : Option Transaction) : State := s.setPort { s.port with transaction := x }

/-- R147: the port takes transactions while RESET and HRST are high. -/
def State.portListens (s : State) : Bool := !s.resetLow && !s.port.hrstLow

/-- HSEL falls: a transaction begins, unless the port ignores HSEL. -/
def hselFall (s : State) : State :=
  if s.portListens = true ∧ s.port.transaction = none then s.setTransaction (some Transaction.begun) else s

/-- HSEL rises: the transaction ends; the bits of a partial byte are discarded. -/
def hselRise (s : State) : State := s.setTransaction none

/-- A byte of a transaction is complete: its opcode, its start address, or a data byte at the current address, which rises
by one, FFh being followed by 00h. A data byte of a WRITE is written. -/
def takeByte (v : Byte) (t : Transaction) (s : State) : State :=
  match t.opcode with
  | none => s.setTransaction (some { t with opcode := some v, gathered := [] })
  | some opcode =>
    match t.address with
    | none => s.setTransaction (some { t with address := some v, gathered := [] })
    | some a =>
      let s := s.setTransaction (some { t with address := some (a + 1), gathered := [] })
      match opcodeOf opcode with
      | .write => { s with pending := s.pending ++ [writeCommand a v] }
      | .read | .void => s

/-- HSCK rises: HSDI is sampled. -/
def hsckRise (hsdi : Bool) (s : State) : State :=
  match s.port.transaction with
  | none => s
  | some t =>
    match bytesOf (t.gathered ++ [hsdi]) with
    | [] => s.setTransaction (some { t with gathered := t.gathered ++ [hsdi] })
    | v :: _ => takeByte v t s

/-- R145, R198: the byte captured under READ at an address, and what is left of a group that was captured whole: at the
first byte of a group all of it is captured, and the bytes after it come from that capture. -/
def captureAt (a : Byte) (held : List Byte) (s : State) : Byte × List Byte :=
  match held with
  | b :: left => (b, left)
  | [] =>
    match (settle s).group a with
    | some (b :: left) => (b, left)
    | some [] | none => (s.windowByte a, [])

/-- R144: what is captured for the byte that begins: under READ, from the start address on, a byte of the window; 00h
otherwise. -/
def Transaction.capture (t : Transaction) (s : State) : Byte × List Byte :=
  match t.opcode.map opcodeOf, t.address with
  | some .read, some a => captureAt a t.held s
  | some .read, none | some .write, _ | some .void, _ | none, _ => (0x00, [])

/-- HSCK falls: HSDO changes. After the last bit of a byte the next one is captured (R145); else the next bit is shifted
out. -/
def hsckFall (s : State) : State :=
  match s.port.transaction with
  | none => s
  | some t =>
    if t.gathered = [] ∧ t.opcode ≠ none then
      let x := t.capture s
      s.setTransaction (some { t with held := x.2, shifting := bitsOf x.1 })
    else s.setTransaction (some { t with shifting := t.shifting.drop 1 })

/-- HSDO: in high impedance (none) while no transaction is in progress; else the bit being shifted out. -/
def State.hsdo (s : State) : Option Bool := s.port.transaction.map (fun t => t.shifting.headD false)

/-- One period of HSCK for each bit of HSDI. -/
def clocked (bits : List Bool) (s : State) : State := bits.foldl (fun s b => hsckFall (hsckRise b s)) s

/-- What HSDO shows at the rising edges of those periods. -/
def shiftedOut : List Bool → State → List (Option Bool)
  | [], _ => []
  | b :: rest, s => s.hsdo :: shiftedOut rest (hsckFall (hsckRise b s))

end Sys2Proof.Machine
end

