-- ==== Sys2Proof/Safety.lean ====
section
/-! DEFINITION. The words of the statements: which blocks a command leaves alone, what a completed command and a built
reply look like, and the invariants that every step keeps. -/

namespace Sys2Proof.Machine

/-! ## Frames -/

/-- The blocks of the part. -/
inductive Block where
  | dir | arb | search | time | link | trunk | port | notify | doze | loader | params
  deriving DecidableEq, Repr

/-- A block is the same in two states. -/
def Block.same (s t : State) : Block → Prop
  | .dir => t.dir = s.dir
  | .arb => t.arb = s.arb
  | .search => t.search = s.search
  | .time => t.time = s.time
  | .link => t.link = s.link
  | .trunk => t.trunk = s.trunk
  | .port => t.port = s.port
  | .notify => t.notify = s.notify
  | .doze => t.doze = s.doze
  | .loader => t.loader = s.loader
  | .params => t.params = s.params

/-- Every block but those named is the same, and so is the queue. -/
def keepsBut (changed : List Block) (s t : State) : Prop :=
  t.pending = s.pending ∧ ∀ b, b ∉ changed → b.same s t

/-- The flags named are set, every other flag, the enables and the causes are as they were (R168). -/
def setsFlags (set : List Flag) (s t : State) : Prop :=
  (∀ f, t.flag f = (s.flag f || decide (f ∈ set)))
    ∧ t.notify.enables = s.notify.enables ∧ t.notify.cause = s.notify.cause

/-- Every slot but those named is the same; the collect cursor too. -/
def keepsSlotsBut (changed : List SlotNo) (s t : State) : Prop :=
  (∀ j, j ∉ changed → t.slot j = s.slot j) ∧ t.dir.collectCursor = s.dir.collectCursor

/-- The entry of slot `i` is replaced by `e`; every generation, every other slot, the free list and the collect cursor are
as they were. -/
def rewritesEntry (i : SlotNo) (e : Entry) (s t : State) : Prop :=
  t.slot i = { s.slot i with entry := some e } ∧ keepsSlotsBut [i] s t ∧ t.dir.free = s.dir.free

/-- Slot `i` goes FREE: only its generation is left, and it joins the tail of the free list (R22). -/
def freesSlot (i : SlotNo) (s t : State) : Prop :=
  t.slot i = { s.slot i with entry := none } ∧ keepsSlotsBut [i] s t ∧ t.dir.free = s.dir.free ++ [i]

/-- The head `i` of the free list becomes entry `e` under the next generation (R21). -/
def allocatesSlot (i : SlotNo) (e : Entry) (s t : State) : Prop :=
  s.dir.free = i :: t.dir.free ∧ keepsSlotsBut [i] s t
    ∧ t.slot i = { generation := nextGeneration (s.slot i).generation, entry := some e }

/-! ## New marks (R161, R162, R178) -/

/-- A wake event taken now would be captured. -/
def State.captures (s : State) : Bool :=
  decide (s.doze.host = .doze) && s.doze.wakeEnable && decide (s.doze.record = none)

/-- What the reason `m`, offered to the entry `e` of handle `h` (as it stands after the operation's other changes), does to
the flags and to doze control, beside the flags in `also`: with WATCH on and the reason not held, MARK is set; with WAKE on
too, in DOZE, with wake enable set and no record held, the record is captured and WAKE is set. -/
def marksAndWakes (also : List Flag) (m : Mark) (e : Entry) (h : Handle) (s t : State) : Prop :=
  let new := e.watch && !e.marks.has m
  let woken := new && e.wake && s.captures
  setsFlags (also ++ (if new then [.mark] else []) ++ (if woken then [.wake] else [])) s t
    ∧ t.doze = (if woken then { s.doze with record := some (.mark h) } else s.doze)

/-- The marks of an entry after a reason is offered to it. -/
def Entry.marked (e : Entry) (m : Mark) : Entry := if e.watch then { e with marks := e.marks.add m } else e

/-! ## Completed commands and built replies -/

/-- The HRST pin and the transaction in progress are as they were. -/
def keepsPins (s t : State) : Prop := t.port.hrstLow = s.port.hrstLow ∧ t.port.transaction = s.port.transaction

/-- A Command grant serves slot `n`, which holds this CODE; nothing that a tick has produced is still to be taken. -/
def servesCommand (n : Fin 4) (code : Byte) (s : State) : Prop :=
  s.settled = true ∧ s.commandHead = some n ∧ (s.commandSlot n).byte Offset.code = code

/-- R151: slot `n` left the queue and is DONE with this result and these outputs; every other byte of it, every other slot,
the HRST pin and the transaction in progress are as they were; the grant is recorded. -/
def completesSlot (n : Fin 4) (code : ResultCode) (outputs : List (Fin 48 × Byte)) (s t : State) : Prop :=
  (t.commandSlot n).state = .done
    ∧ (t.commandSlot n).byte Offset.result = code.toByte
    ∧ (∀ p ∈ outputs, (t.commandSlot n).byte p.1 = p.2)
    ∧ (∀ o, o ≠ Offset.result → (∀ p ∈ outputs, p.1 ≠ o) → (t.commandSlot n).byte o = (s.commandSlot n).byte o)
    ∧ (∀ m, m ≠ n → t.commandSlot m = s.commandSlot m)
    ∧ s.port.postOrder = n :: t.port.postOrder
    ∧ keepsPins s t
    ∧ t.arb = { s.arb with lastGranted := .command }

/-- A Trunk grant serves context `c`, which holds a request of this kind and payload from node `node`. -/
def servesRequest (c : Fin 6) (node kind : Byte) (payload : List Byte) (s : State) : Prop :=
  s.settled = true ∧ s.trunkHead = some c ∧ (s.context c).requester = some node ∧ (s.context c).kind = some kind
    ∧ (s.context c).payload = payload

/-- R126: context `c` left the received queue, and the grant is recorded; every other context is as it was. -/
def takesRequest (c : Fin 6) (s t : State) : Prop :=
  s.trunk.received = c :: t.trunk.received ∧ (∀ d, d ≠ c → t.context d = s.context d)
    ∧ t.arb = { s.arb with lastGranted := .trunk }

/-- R127, R129: the reply is built in context `c`, which is REPLY_READY at the tail of the ready queue and keeps what the
link stored in it. -/
def buildsReply (c : Fin 6) (r : Reply) (s t : State) : Prop :=
  takesRequest c s t
    ∧ t.context c = { s.context c with state := .replyReady, linked := none, deadline := none, reply := some r }
    ∧ t.trunk.ready = s.trunk.ready ++ [c]

/-- Slot `n` is completed; beside the arbiter, the port and the flag CMD, at most the blocks named have changed. -/
def completesWith (n : Fin 4) (code : ResultCode) (outputs : List (Fin 48 × Byte)) (changed : List Block) (s t : State) :
    Prop :=
  completesSlot n code outputs s t ∧ keepsBut (changed ++ [.arb, .port, .notify]) s t ∧ setsFlags [.cmd] s t

/-- The reply is built; beside the trunk unit and the arbiter, at most the blocks named have changed. -/
def repliesWith (c : Fin 6) (r : Reply) (changed : List Block) (s t : State) : Prop :=
  buildsReply c r s t ∧ keepsBut (changed ++ [.trunk, .arb]) s t

/-- R134, R137: a context whose wait has ended without a grant: REPLY_READY with its open items, as validated at SEEK
end. -/
def TrunkContext.answeredWith (code : ResultCode) (t : TrunkContext) : TrunkContext :=
  { t with
    state := .replyReady, linked := none, deadline := none
    reply := some (seekReply code (t.nextCursor.getD 0) (t.results.filter (fun x => !x.guarded))) }

/-- Some LIVE or STALE entry has this tag (R9). -/
def tagTaken (tag : List Byte) (s : State) : Prop :=
  ∃ i e, s.entryOf i = some e ∧ e.countsForTag = true ∧ e.tag = tag

/-- R31: a lock of another holder than LOCAL, without FORCE. -/
def barsHost (force : Bool) (e : Entry) : Bool := e.lock.any (fun k => decide (k.holder ≠ .loc)) && !force

/-- R31: a lock of another holder than node `n`. -/
def barsNode (n : Byte) (e : Entry) : Bool := e.lock.any (fun k => decide (k.holder ≠ .node n))

/-- R42: the list after a put into an ascending list (which every list is, `directoryInv`): the pair is in it, the pairs of
every other id are as they were, the order is kept. -/
def isPut (a : Attr) (before after : List Attr) : Prop :=
  before.Pairwise (fun x y => x.id.toNat < y.id.toNat) →
    (∀ b, b ∈ after ↔ b = a ∨ (b ∈ before ∧ b.id ≠ a.id)) ∧ after.Pairwise (fun x y => x.id.toNat < y.id.toNat)

/-- R43: the list after a drop: the pairs of every other id, in order. -/
def isDrop (id : Byte) (before after : List Attr) : Prop := after = before.filter (fun b => decide (b.id ≠ id))

/-- R61 to R64: what a sweep of charge `q` leaves of an entry, none for a slot that goes FREE. -/
def Entry.swept (q grace : Nat) (e : Entry) : Option Entry :=
  if e.life.isSpent then some e
  else
    let lapsed := e.lock.any (fun k => decide (k.lapse ≤ q))
    let lock := if lapsed then none else e.lock.map (fun k => { k with lapse := k.lapse - q })
    let d := { e with lock := lock }
    let d := if lapsed then d.marked .lockLapsed else d
    match e.life with
    | .live none | .spent => some d
    | .live (some r) =>
      if r ≤ q then some ({ d with life := .stale grace }.marked .stale) else some { d with life := .live (some (r - q)) }
    | .stale g =>
      if lock.isSome ∨ q < g then some { d with life := .stale (g - q) }
      else if e.watch then some ({ d with life := .spent }.marked .retired)
      else none

/-! ## Images and requests, written out -/

/-- The bytes of a preset in an image (12.5); the byte after the pairs has no meaning (log 6). -/
def Preset.bytes (spare : Byte) (p : Preset) : List Byte :=
  BitVec.ofNat 8 p.tag.length :: p.tag ++ [p.cls, p.reach, p.visibility, p.flags, BitVec.ofNat 8 p.attrs.length]
    ++ p.attrs.flatMap (fun a => a.id :: halfBytes a.value) ++ [spare]

/-- The bytes of an image before its sum. -/
def imageBody (p : Params) (presets : List Preset) (spare : Byte) : List Byte :=
  let tail := p.bytes ++ BitVec.ofNat 8 presets.length :: presets.flatMap (Preset.bytes spare)
  0x5A :: countBytes (tail.length + 5) ++ tail

/-- An image (12.5): its body, then the sum of its bytes modulo 65536. -/
def imageOf (p : Params) (presets : List Preset) (spare : Byte) : List Byte :=
  let body := imageBody p presets spare
  body ++ countBytes (((body.map BitVec.toNat).foldl (· + ·) 0) % 65536)

/-- The kind of a request (R128). -/
def Request.kind : Request → Byte
  | .announce _ _ _ _ => 0x01 | .refresh _ => 0x02 | .withdraw _ => 0x03 | .seek _ _ _ _ _ => 0x04 | .fetch _ => 0x05
  | .postAttr _ _ _ => 0x06 | .dropAttr _ _ => 0x07 | .claim _ _ => 0x08 | .yield _ => 0x09

/-- The payload of a request (12.2). -/
def Request.payload : Request → List Byte
  | .announce tag cls visibility lease => BitVec.ofNat 8 tag.length :: tag ++ [cls, visibility] ++ halfBytes lease
  | .refresh h | .withdraw h | .fetch h | .yield h => halfBytes h
  | .seek start options cls pattern mask =>
    [start, options, cls, BitVec.ofNat 8 pattern.length] ++ pattern ++ halfBytes mask
  | .postAttr h id value => halfBytes h ++ id :: halfBytes value
  | .dropAttr h id => halfBytes h ++ [id]
  | .claim h hold => halfBytes h ++ [hold]

/-- The bytes of a request frame (R113): from the destination to the check. -/
def requestFrame (destination source kind tag : Byte) (payload : List Byte) : List Byte :=
  let bytes := [destination, source, kind, tag, BitVec.ofNat 8 payload.length] ++ payload
  bytes ++ [crc bytes]

/-- Commands run one after another, up to the first that gives no next state. -/
def runAll : List Instr → State → Host.Outcome State Fault Refusal
  | [], s => .next s
  | i :: rest, s =>
    match exec i s with
    | .next t => runAll rest t
    | .fault f => .fault f
    | .refused r => .refused r

/-! ## Invariants -/

/-- R180: the WAKE flag is set exactly while a wake record is held. -/
def wakeFlagInv (s : State) : Prop := s.flag .wake = s.doze.record.isSome

/-- R174: no trunk context is AWAITING_HOST while the host state is DOZE. -/
def dozeInv (s : State) : Prop := s.doze.host = .doze → ∀ c, (s.context c).state ≠ .awaitingHost

/-- R150: the post-order queue holds exactly the POSTED slots, each once. -/
def postOrderInv (s : State) : Prop :=
  s.port.postOrder.Nodup ∧ ∀ n, n ∈ s.port.postOrder ↔ (s.commandSlot n).state = .posted

/-- R147: no transaction is in progress while RESET or HRST is low. -/
def pinsInv (s : State) : Prop := s.portListens = false → s.port.transaction = none

/-- The parameters that a judged image would put in force (R190). -/
def LoadPhase.setInRange : LoadPhase → Bool
  | .judged _ set _ _ _ => set.inRange
  | .held | .reading | .ended => true

/-- How many presets a judged image has, those judged and those left (R189, test 2). -/
def LoadPhase.presetCount : LoadPhase → Nat
  | .judged _ _ left made skipped => left.length + made + skipped
  | .held | .reading | .ended => 0

/-- The numbers of 3.1, R57, R110, R123, R158 and R195 lie in their ranges; the bits of TRUNK CAUSE that name no cause are 0
(R170, R196). -/
def rangesInv (s : State) : Prop :=
  s.params.inRange = true ∧ s.loader.phase.setInRange = true
    ∧ s.loader.phase.presetCount ≤ 8 ∧ s.loader.presetsLoaded + s.loader.presetsSkipped ≤ 8
    ∧ 999 ≤ s.time.dividerInForce ∧ s.time.dividerInForce ≤ 39999 ∧ s.time.dividerCount ≤ s.time.dividerInForce
    ∧ s.time.tenMsCount ≤ 9 ∧ s.time.secondCount ≤ 99 ∧ s.time.owed ≤ 15
    ∧ s.link.tkcLow ≤ 25 ∧ s.link.tkdLow ≤ 25 ∧ s.notify.cause.toNat ≤ 3
    ∧ ∀ c d, (s.context c).deadline = some d → d ≤ 255

/-- R14, R15, R2: the length of the lease and what is left of it, or the grace, lie in their ranges. -/
def Entry.timesOk (e : Entry) : Prop :=
  (∀ n, e.leaseLength = some n → 1 ≤ n ∧ n ≤ 65535)
    ∧ match e.life with
      | .live none => e.leaseLength = none
      | .live (some r) => 1 ≤ r ∧ ∃ n, e.leaseLength = some n ∧ r ≤ n
      | .stale g => g ≤ 255
      | .spent => True

/-- R17: at most six pairs, of ids 1 to 254, strictly ascending. -/
def Entry.attrsOk (e : Entry) : Prop :=
  e.attrs.length ≤ 6 ∧ e.attrs.Pairwise (fun a b => a.id.toNat < b.id.toNat)
    ∧ ∀ a ∈ e.attrs, 1 ≤ a.id.toNat ∧ a.id.toNat ≤ 254

/-- R7, R8, R14 to R18: what holds of every entry. -/
def Entry.ok (e : Entry) : Prop :=
  1 ≤ e.tag.length ∧ e.tag.length ≤ 16
    ∧ e.timesOk ∧ e.attrsOk
    ∧ (e.origin ≠ .loc → e.leaseLength ≠ none)
    ∧ (∀ k, e.lock = some k → 1 ≤ k.lapse ∧ k.lapse ≤ 255)
    ∧ (e.watch = false → e.marks = Marks.none_)
    ∧ (e.life = .spent → e.lock = none ∧ e.marks.retired = true)

/-- R20: the free list holds each FREE slot exactly once and no other slot. -/
def freeListInv (s : State) : Prop :=
  s.dir.free.Nodup ∧ ∀ i, i ∈ s.dir.free ↔ s.entryOf i = none

/-- R9: no two entries that are LIVE or STALE have equal tags. -/
def tagsInv (s : State) : Prop :=
  ∀ i j d e, s.entryOf i = some d → s.entryOf j = some e → d.countsForTag = true → e.countsForTag = true →
    d.tag = e.tag → i = j

/-- The law of the directory: R20, R4 (a slot in use has a generation of 1 to 255), R9, every entry as it should be; with
the parameters in range, which the entries take their times from. -/
def directoryInv (s : State) : Prop :=
  freeListInv s
    ∧ (∀ i, s.entryOf i ≠ none → (s.slot i).generation ≠ 0)
    ∧ tagsInv s
    ∧ (∀ i e, s.entryOf i = some e → e.ok)
    ∧ s.params.inRange = true ∧ s.loader.phase.setInRange = true

/-- R100: what holds of the walk of a search: the handles found lie in ascending slot order, from the start slot to below
the cursor, no slot twice, at most as many as the limit. -/
def Search.ok (r : Search) : Prop :=
  r.start ≤ r.cursor ∧ r.cursor ≤ 256 ∧ 1 ≤ r.limit ∧ r.limit ≤ 32 ∧ r.results.length ≤ r.limit
    ∧ r.results.Pairwise (fun a b => (handleSlot a).val < (handleSlot b).val)
    ∧ (∀ h ∈ r.results, r.start ≤ (handleSlot h).val ∧ (handleSlot h).val < r.cursor)
    ∧ (r.owner ≠ .loc → r.limit = 4 ∧ r.burst = false ∧ r.includeStale = false)

/-- R86, R88, R100: every search context is as it should be; a RUNNING one has slots left and room left. -/
def searchInv (s : State) : Prop :=
  ∀ k, match s.searchContext k with
    | .idle => True
    | .running r => r.ok ∧ r.cursor < 256 ∧ r.results.length < r.limit
    | .done _ r => r.ok ∧ r.owner = .loc

/-- R126, R127: the received queue holds exactly the RECEIVED contexts, the ready queue exactly the REPLY_READY ones, each
once. -/
def trunkQueuesInv (s : State) : Prop :=
  s.trunk.received.Nodup ∧ (∀ c, c ∈ s.trunk.received ↔ (s.context c).state = .received)
    ∧ s.trunk.ready.Nodup ∧ (∀ c, c ∈ s.trunk.ready ↔ (s.context c).state = .replyReady)

/-- R86: a trunk context is SERVING exactly when it owns a search context, the one it is linked to. -/
def pairingInv (s : State) : Prop :=
  (∀ c k, ((s.context c).state = .serving ∧ (s.context c).linked = some k)
      ↔ ∃ r, s.searchContext k = .running r ∧ r.owner = .trunk c)
    ∧ (∀ c, (s.context c).state = .serving → (s.context c).linked ≠ none)
    ∧ (∀ k code r, s.searchContext k = .done code r → r.owner = .loc)

/-- R109, R116, R118: the link receives into the RECEIVING context, sends from the SENDING one, and does either only while
it is BUSY; the part does not receive a frame while it sends one. -/
def linkInv (s : State) : Prop :=
  (∀ c, (s.context c).state = .receiving ↔ ∃ part, s.link.receiver = .frame c part)
    ∧ (∀ c, (s.context c).state = .sending ↔ ∃ x, s.link.transmitter = some x ∧ x.context = c)
    ∧ (s.link.state ≠ .busy → s.link.receiver = .waiting ∧ s.link.transmitter = none)
    ∧ (s.link.transmitter ≠ none → ∀ c part, s.link.receiver ≠ .frame c part)

/-- The law of the trunk side. -/
def trunkInv (s : State) : Prop := trunkQueuesInv s ∧ pairingInv s ∧ linkInv s

end Sys2Proof.Machine
end

