-- ==== Sys2Proof/Certificates/Slice0/Obligations.lean ====
section
/-! DEFINITION. The statements for the provers. Each is over every state of the model; which rule of spec/ it states, and
which choice of the model it rests on, stands in OBLIGATIONS.json and in its docstring. -/

open Sys2Proof Sys2Proof.Machine

/-- A step runs the command at the front of the queue on the rest of the queue (95_what_each_step_holds.md, 2.1 The
Directory Arbiter). -/
def Obligations.StepRunsTheFrontCommand : Prop :=
  ∀ (c : Instr) (rest : List Instr) (s : State), s.pending = c :: rest → step s = exec c { s with pending := rest }

/-- The arbiter grants the first pending class after the one granted last, and Search serves its contexts in rotation
(2.1 The Directory Arbiter, 11.5 The Part While the Load Runs). -/
def Obligations.ArbiterGrantsByRotation : Prop :=
  ∀ s : State,
    let pending : GrantClass → Prop := fun g => match g with
      | .command => s.port.postOrder ≠ []
      | .trunk => s.trunk.received ≠ []
      | .search => ∃ k r, s.searchContext k = .running r
      | .sweep => 0 < s.time.owed
    let follows : GrantClass → GrantClass := fun g => match g with
      | .command => .trunk
      | .trunk => .search
      | .search => .sweep
      | .sweep => .command
    let turn := fun d => Nat.repeat follows (d + 1) s.arb.lastGranted
    let running := fun k => ∃ r, s.searchContext k = .running r
    (s.loadEnded = false → s.nextGrant = none)
    ∧ (s.loadEnded = true →
      (∀ g, s.nextGrant = some g ↔ ∃ d, d < 4 ∧ turn d = g ∧ pending g ∧ ∀ e, e < d → ¬pending (turn e))
      ∧ (s.nextGrant = none ↔ ∀ g, ¬pending g))
    ∧ (∀ k, s.nextSearch = some k ↔ ∃ d : Fin 4, k = s.arb.lastServed + 1 + d ∧ running k
        ∧ ∀ e, e < d → ¬running (s.arb.lastServed + 1 + e))
    ∧ (∀ n, servesCommand n 0x0E s →
        ∃ t, exec .collect s = .next t ∧ t.arb = { s.arb with lastGranted := .command })
    ∧ (∀ c n h, servesRequest c n 0x05 (halfBytes h) s →
        ∃ t, exec .fetch s = .next t ∧ t.arb = { s.arb with lastGranted := .trunk })
    ∧ (s.settled = true → s.nextGrant = some .search → ∃ t k, s.nextSearch = some k
        ∧ exec .searchStep s = .next t ∧ t.arb = { lastGranted := .search, lastServed := k })
    ∧ (s.settled = true → s.nextGrant = some .sweep →
        ∃ t, exec .sweep s = .next t ∧ t.arb = { s.arb with lastGranted := .sweep })
    ∧ (∃ t, exec .fullReset s = .next t ∧ t.arb = { lastGranted := .sweep, lastServed := 3 })
    ∧ (∃ t, exec .hostReset s = .next t ∧ t.arb = s.arb)
    ∧ (∃ t, exec .trunkFault s = .next t ∧ t.arb = s.arb)

/-- FULL_RESET puts every block at its full-reset state, LOAD_START begins the load (11.1 Full Reset, 1.15 The
Directory After Each Reset, 3.2 Seconds Owed and SLIP, 6.6 The Link After Each Reset, 8.4 Parameters). It rests on
choices of the model: log 1, log 23. -/
def Obligations.FullResetAndItsRelease : Prop :=
  (∀ s : State, ∃ t, exec .fullReset s = .next t
      ∧ t.resetLow = true ∧ t.configLineDriven = false ∧ t.pending = s.pending ∧ t.port.hrstLow = s.port.hrstLow
      ∧ (∀ i, t.slot i = { generation := 0, entry := none }) ∧ t.dir.free = allSlots ∧ t.dir.collectCursor = 255
      ∧ t.arb = { lastGranted := .sweep, lastServed := 3 }
      ∧ (∀ k, t.searchContext k = .idle)
      ∧ t.time.dividerCount = 0 ∧ t.time.dividerInForce = 7999 ∧ t.time.tenMsCount = 0 ∧ t.time.secondCount = 0
      ∧ t.time.owed = 0 ∧ t.time.idleTicks = s.time.idleTicks
      ∧ t.link.state = .idle ∧ t.link.tkcLow = 0 ∧ t.link.tkdLow = 0 ∧ t.link.receiver = .waiting
      ∧ t.link.transmitter = none ∧ t.link.latchedDir = none ∧ t.link.latchedSpeed = none
      ∧ (∀ c, t.context c = TrunkContext.idleWith 0) ∧ t.trunk.received = [] ∧ t.trunk.ready = []
      ∧ (∀ n, (t.commandSlot n).state = .empty ∧ ∀ o, (t.commandSlot n).byte o = 0x00) ∧ t.port.postOrder = []
      ∧ t.port.transaction = none ∧ t.hsdo = none
      ∧ t.notify = { flags := 0x00, enables := 0x00, cause := 0x00 }
      ∧ t.doze = { host := .doze, wakeEnable := false, record := none }
      ∧ t.loader.outcome = .none_ ∧ t.loader.presetsLoaded = 0 ∧ t.loader.presetsSkipped = 0
      ∧ t.params = { dirAddress := 112, linkSpeed := .kbit100, leaseMin := 10, leaseMax := 3600, grace := 30,
                     lockMax := 60, fwdDeadline := 50, msDivider := 7999, trunkWatch := false, trunkWake := false })
    ∧ ∀ s : State, s.settled = true → s.resetLow = true →
        ∃ t, exec .loadStart s = .next t ∧ keepsBut [.loader] s t ∧ t.loader = { s.loader with phase := .reading }
          ∧ t.configLineDriven = true

/-- CONFIG_READ makes the transfer its rule lists and gives ABSENT, REJECTED or LOADED (11.2 Reading the Image, 11.3
Judging the Image, 12.5 Configuration Image). It rests on choices of the model: log 6, log 7, log 10. -/
def Obligations.ConfigReadJudgesTheImage : Prop :=
  ∀ (s : State) (a b c d : Bool) (bytes : List Byte), s.settled = true → s.loader.phase = .reading →
    let shifted := fun k => bytes.getD k (Config.memoryByte k)
    let n := (half (shifted 1) (shifted 2)).toNat
    let wanted := if shifted 0 ≠ 0x5A then 1 else if n < 18 ∨ 512 < n then 3 else n
    let image := (List.range wanted).map shifted
    let body := image.take (n - 2)
    let judged := shifted 0 = 0x5A ∧ 18 ≤ n ∧ n ≤ 512
      ∧ image = body ++ countBytes (((body.map BitVec.toNat).foldl (· + ·) 0) % 65536)
      ∧ (image.getD 15 0).toNat ≤ 8
    (transfer false b c d bytes = [.start, .send 0xA0 false, .stop]
      ∧ transfer true false c d bytes = [.start, .send 0xA0 true, .send 0x00 false, .stop]
      ∧ transfer true true false d bytes = [.start, .send 0xA0 true, .send 0x00 true, .send 0x00 false, .stop]
      ∧ transfer true true true false bytes
        = [.start, .send 0xA0 true, .send 0x00 true, .send 0x00 true, .restart, .send 0xA1 false, .stop]
      ∧ transfer true true true true bytes
        = [.start, .send 0xA0 true, .send 0x00 true, .send 0x00 true, .restart, .send 0xA1 true]
          ++ image.dropLast.map (fun v => .receive v true) ++ image.getLast?.toList.map (fun v => .receive v false)
          ++ [.stop])
    ∧ ∃ t, exec (.configRead a b c d bytes) s = .next t ∧ keepsBut [.loader] s t
      ∧ t.loader.outcome = s.loader.outcome ∧ t.loader.presetsLoaded = s.loader.presetsLoaded
      ∧ t.loader.presetsSkipped = s.loader.presetsSkipped
      ∧ ((a && b && c && d) = false → t.loader.phase = .judged .absent Params.defaults [] 0 0)
      ∧ ((a && b && c && d) = true →
          (∀ p presets, judged → parseParams ((body.drop 3).take 12) = some p →
            parsePresets (image.getD 15 0).toNat (body.drop 16) = some presets →
            t.loader.phase = .judged .loaded p presets 0 0)
          ∧ (¬judged ∨ parseParams ((body.drop 3).take 12) = none
              ∨ parsePresets (image.getD 15 0).toNat (body.drop 16) = none →
            t.loader.phase = .judged .rejected Params.defaults [] 0 0))

/-- An image written out from parameters and presets is LOADED and gives them back (11.3 Judging the Image, 12.5
Configuration Image). It rests on choices of the model: log 6. -/
def Obligations.WrittenImageIsReadBack : Prop :=
  ∀ (p : Params) (presets : List Preset) (spare : Byte) (beyond : List Byte),
    p.inRange = true → presets.length ≤ 8 →
    (∀ x ∈ presets, x.tag.length ≤ 255 ∧ x.attrs.length ≤ 255) →
    (imageOf p presets spare).length ≤ 512 →
    readBytes (imageOf p presets spare ++ beyond) = imageOf p presets spare
      ∧ judgeRead (imageOf p presets spare) = some (p, presets)

/-- PRESET_CREATE allocates a preset that passes its tests and skips one that fails (11.4 Presets). -/
def Obligations.PresetIsCreatedOrSkipped : Prop :=
  ∀ (s : State) (outcome : LoadOutcome) (set : Params) (p : Preset) (left : List Preset) (made skipped : Nat),
    s.settled = true → s.loader.phase = .judged outcome set (p :: left) made skipped →
    let passes := 1 ≤ p.tag.length ∧ p.tag.length ≤ 16 ∧ ¬tagTaken p.tag s ∧ p.visibility.toNat ≤ 2 ∧ p.reach.toNat ≤ 111
      ∧ p.attrs.length ≤ 6 ∧ (∀ a ∈ p.attrs, 1 ≤ a.id.toNat ∧ a.id.toNat ≤ 254)
      ∧ p.attrs.Pairwise (fun a b => a.id.toNat < b.id.toNat)
    ∃ t, exec .presetCreate s = .next t
      ∧ (passes → ∀ i rest, s.dir.free = i :: rest →
          (∃ e, allocatesSlot i e s t
            ∧ e.origin = .loc ∧ e.tag = p.tag ∧ e.cls = p.cls ∧ reachByte e.reach = p.reach
            ∧ e.visibility.toByte = p.visibility ∧ e.watch = p.flags.getLsbD 0 ∧ e.wake = p.flags.getLsbD 1
            ∧ e.leaseLength = none ∧ e.life = .live none ∧ e.lock = none ∧ e.attrs = p.attrs ∧ e.marks = Marks.none_)
          ∧ keepsBut [.dir, .loader] s t
          ∧ t.loader = { s.loader with phase := .judged outcome set left (made + 1) skipped })
      ∧ (¬passes → keepsBut [.loader] s t
          ∧ t.loader = { s.loader with phase := .judged outcome set left made (skipped + 1) })

/-- LOAD_END puts outcome, counts and parameters in force, sets LOAD and opens port, receiver and arbiter (11.6 Load
End). -/
def Obligations.LoadEndOpensThePart : Prop :=
  ∀ (s : State) (outcome : LoadOutcome) (set : Params) (made skipped : Nat),
    s.settled = true → s.loader.phase = .judged outcome set [] made skipped →
    ∃ t, exec .loadEnd s = .next t ∧ keepsBut [.loader, .params, .notify] s t
      ∧ t.loader.outcome = outcome ∧ t.loader.presetsLoaded = made ∧ t.loader.presetsSkipped = skipped
      ∧ t.params = set ∧ setsFlags [.load] s t
      ∧ s.portStatus.getLsbD 0 = true ∧ t.portStatus.getLsbD 0 = false
      ∧ t.loadEnded = true ∧ t.configLineDriven = false

/-- HOST_RESET clears the host side in one event and leaves the rest; its release opens the port (10.6 Host Reset
Across the Part, 4.4 Locks at Host Reset, 5.7 Contexts at Each Reset, 8.5 Slots After Each Reset). It rests on choices
of the model: log 2. -/
def Obligations.HostResetClearsTheHostSide : Prop :=
  ∀ s : State, s.settled = true →
    (s.port.hrstLow = false → ∃ t, exec .hostReset s = .next t
      ∧ keepsBut [.dir, .search, .trunk, .port, .notify, .doze] s t
      ∧ (∀ n, (t.commandSlot n).state = .empty ∧ ∀ o, (t.commandSlot n).byte o = 0x00) ∧ t.port.postOrder = []
      ∧ t.port.hrstLow = true ∧ t.port.transaction = none ∧ t.hsdo = none
      ∧ (∀ i, t.slot i = { s.slot i with
          entry := (s.entryOf i).map (fun e =>
            if e.lock.any (fun k => decide (k.holder = .loc)) then { e with lock := none } else e) })
      ∧ t.dir.free = s.dir.free ∧ t.dir.collectCursor = 255
      ∧ (∀ k, t.searchContext k = if (s.searchContext k).ownerByte = 0x00 then .idle else s.searchContext k)
      ∧ (∀ c, t.context c =
          if (s.context c).state = .awaitingHost then (s.context c).answeredWith .deferred else s.context c)
      ∧ t.trunk.ready = s.trunk.ready ++ (List.finRange 6).filter (fun c => (s.context c).state = .awaitingHost)
      ∧ t.trunk.received = s.trunk.received
      ∧ t.notify = { flags := 0x00, enables := 0x00, cause := 0x00 }
      ∧ t.doze = { host := .doze, wakeEnable := false, record := none }
      ∧ t.irq = false ∧ t.wakePin = false)
    ∧ (s.port.hrstLow = true → exec .hostReset s = .next s ∧ hselFall s = s)
    ∧ (∃ t, exec .hostResetRelease s = .next t ∧ keepsBut [.port] s t ∧ t.port = { s.port with hrstLow := false })

/-- A second tick raises seconds owed below 15 and is lost at 15, setting SLIP (3.2 Seconds Owed and SLIP). It rests
on choices of the model: log 3. -/
def Obligations.SecondTickIsOwedOrLost : Prop :=
  ∀ s : State,
    (s.time.secondDue = false → exec .secondTick s = .next s)
    ∧ (s.time.secondDue = true → ∃ t, exec .secondTick s = .next t ∧ keepsBut [.time, .notify] s t
      ∧ t.time = { s.time with secondDue := false, owed := if s.time.owed < 15 then s.time.owed + 1 else s.time.owed }
      ∧ setsFlags (if s.time.owed < 15 then [] else [.slip]) s t)
    ∧ (s.settled = true → s.nextGrant = some .sweep → ∃ t, exec .sweep s = .next t ∧ t.time.owed = 0)
    ∧ (s.settled = true → ∀ v, ∃ t, exec (.flagsWrite v) s = .next t ∧ t.time.owed = s.time.owed)

/-- DEADLINE_EXPIRY answers every expired context PARTIAL with its open items (7.4 SEEK End, 7.6 Replies). It rests on
choices of the model: log 14. -/
def Obligations.DeadlineExpiryRepliesPartial : Prop :=
  ∀ s : State, ∃ t, exec .deadlineExpiry s = .next t ∧ keepsBut [.trunk] s t
    ∧ (∀ c, t.context c =
        if (s.context c).state = .awaitingHost ∧ (s.context c).deadline = some 0 then
          (s.context c).answeredWith .partial_
        else s.context c)
    ∧ t.trunk.ready = s.trunk.ready ++ (List.finRange 6).filter (fun c =>
        (s.context c).state = .awaitingHost ∧ (s.context c).deadline = some 0)
    ∧ t.trunk.received = s.trunk.received

/-- SWEEP charges all seconds owed to every lock, lease and grace, in slot order (R60, R61, R62, R63). -/
def Obligations.SweepChargesEveryEntry : Prop :=
  ∀ s : State, s.settled = true → s.nextGrant = some .sweep →
    let q := s.time.owed
    ∃ t, exec .sweep s = .next t ∧ keepsBut [.dir, .arb, .time, .notify, .doze] s t
      ∧ t.time = { s.time with owed := 0 } ∧ t.arb = { s.arb with lastGranted := .sweep }
      ∧ (∀ i, t.slot i = { s.slot i with entry := (s.entryOf i).bind (Entry.swept q s.params.grace) })
      ∧ t.dir.free = s.dir.free
          ++ allSlots.filter (fun i => (s.entryOf i).any (fun e => (e.swept q s.params.grace).isNone))
      ∧ t.dir.collectCursor = s.dir.collectCursor
      ∧ let gains := fun i => match s.entryOf i, t.entryOf i with
          | some d, some e => decide (e.marks ≠ d.marks)
          | _, _ => false
        let wakes := fun i => gains i && (s.entryOf i).any (fun e => e.wake)
        let first := if s.captures then allSlots.find? wakes else none
        setsFlags ((if allSlots.any gains then [.mark] else []) ++ (if first.isSome then [.wake] else [])) s t
          ∧ t.doze = (match first with
            | some i => { s.doze with record := some (.mark (s.handleOf i)) }
            | none => s.doze)

/-- What a tick has produced is taken, in a fixed order, before any other command; an idle step is one REFCLK period
(3.1 The Time Base, 6.2 Link States and the Stuck-Line Fault). It rests on choices of the model: log 3, log 4, log 23.
-/
def Obligations.TicksAreTakenBeforeAnythingElse : Prop :=
  (∀ s : State, (settle s).settled = true ∧ (s.settled = true → settle s = s)
    ∧ (∃ a b c d, exec .trunkFault s = .next a ∧ exec .faultRelease a = .next b ∧ exec .tenMsTick b = .next c
        ∧ exec .deadlineExpiry c = .next d ∧ exec .secondTick d = .next (settle s))
    ∧ ∀ c : Instr, c ∉ [Instr.fullReset, .trunkFault, .faultRelease, .tenMsTick, .deadlineExpiry, .secondTick] →
        exec c s = exec c (settle s))
    ∧ ∀ s : State, s.pending = [] →
      let r := settle s
      let lines := Config.idleLines r.time.idleTicks
      (r.resetLow = true → step s = .next r)
      ∧ (r.resetLow = false → r.time.dividerCount < r.time.dividerInForce →
          step s = .next (r.setTime { r.time with dividerCount := r.time.dividerCount + 1 }))
      ∧ (r.resetLow = false → r.time.dividerInForce ≤ r.time.dividerCount →
          step s = exec (.msTick lines.1 lines.2) (r.setTime { r.time with idleTicks := r.time.idleTicks + 1 }))

/-- MS_TICK restarts the divider, counts to 10 ms and counts the low runs; TEN_MS_TICK counts deadlines and seconds
(3.1 The Time Base, 6.2 Link States and the Stuck-Line Fault, 7.4 SEEK End). It rests on choices of the model: log 3,
log 4, log 5. -/
def Obligations.MillisecondAndTenMsTicks : Prop :=
  (∀ (s : State) (tkc tkd : LineMs), s.settled = true →
    (s.resetLow = true → exec (.msTick tkc tkd) s = .next s)
    ∧ (s.resetLow = false → s.time.dividerCount < s.time.dividerInForce → refclkPeriod tkc tkd s
        = s.setTime { s.time with dividerCount := s.time.dividerCount + 1 })
    ∧ (s.resetLow = false → s.time.dividerCount ≤ s.time.dividerInForce → exec (.msTick tkc tkd) s
        = .next (Nat.repeat (refclkPeriod tkc tkd) (s.time.dividerInForce - s.time.dividerCount + 1) s))
    ∧ (s.resetLow = false → ∃ t, exec (.msTick tkc tkd) s = .next t ∧ keepsBut [.time, .link] s t
      ∧ t.time.dividerCount = 0 ∧ t.time.dividerInForce = s.params.msDivider
      ∧ (if s.time.tenMsCount < 9 then t.time.tenMsCount = s.time.tenMsCount + 1 ∧ t.time.tenMsDue = false
        else t.time.tenMsCount = 0 ∧ t.time.tenMsDue = true)
      ∧ t.time.secondCount = s.time.secondCount ∧ t.time.owed = s.time.owed ∧ t.time.secondDue = s.time.secondDue
      ∧ (s.link.state = .fault → t.link = { s.link with bothHigh := decide (tkc = .high ∧ tkd = .high) })
      ∧ (s.link.state ≠ .fault → t.link = { s.link with
          tkcLow := if tkc = .low then min 25 (s.link.tkcLow + 1) else 0
          tkdLow := if tkd = .low then min 25 (s.link.tkdLow + 1) else 0 })))
    ∧ (∀ s : State,
    (s.time.tenMsDue = false → exec .tenMsTick s = .next s)
    ∧ (s.time.tenMsDue = true → ∃ t, exec .tenMsTick s = .next t ∧ keepsBut [.time, .trunk] s t
      ∧ (∀ c, t.context c =
          if (s.context c).state = .awaitingHost then
            { s.context c with deadline := (s.context c).deadline.map (fun d => d - 1) }
          else s.context c)
      ∧ t.trunk.received = s.trunk.received ∧ t.trunk.ready = s.trunk.ready
      ∧ t.time = { s.time with
          tenMsDue := false
          secondCount := if s.time.secondCount < 99 then s.time.secondCount + 1 else 0
          secondDue := if s.time.secondCount < 99 then s.time.secondDue else true }))

/-- CREATE judges fields, tag and free list in that order and allocates a LOCAL entry (R32, R33). -/
def Obligations.CreateAllocatesALocalEntry : Prop :=
  ∀ (s : State) (n : Fin 4), servesCommand n 0x01 s →
    let c := s.commandSlot n
    let length := (c.byte Offset.tagLength).toNat
    let tag := c.dataBytes length
    let fields := 1 ≤ length ∧ length ≤ 16 ∧ (c.byte Offset.reach).toNat ≤ 111 ∧ (c.byte Offset.visibility).toNat ≤ 2
    ∃ t, exec .create s = .next t
      ∧ (¬fields → completesWith n .badParam (halfAt Offset.handle nullHandle) [] s t)
      ∧ (fields → tagTaken tag s → completesWith n .duplicate (halfAt Offset.handle nullHandle) [] s t)
      ∧ (fields → ¬tagTaken tag s → s.dir.free = [] →
          completesWith n .full (halfAt Offset.handle nullHandle) [] s t)
      ∧ (fields → ¬tagTaken tag s → ∀ i rest, s.dir.free = i :: rest →
          completesWith n .ok (halfAt Offset.handle (mkHandle (nextGeneration (s.slot i).generation) i)) [.dir] s t
          ∧ ∃ e, allocatesSlot i e s t
            ∧ e.origin = .loc ∧ e.tag = tag ∧ e.cls = c.byte Offset.cls ∧ reachByte e.reach = c.byte Offset.reach
            ∧ e.visibility.toByte = c.byte Offset.visibility
            ∧ e.watch = (c.byte Offset.entryFlags).getLsbD 0 ∧ e.wake = (c.byte Offset.entryFlags).getLsbD 1
            ∧ e.leaseLength = (if c.half Offset.lease = 0 then none else some (c.half Offset.lease).toNat)
            ∧ e.life = .live e.leaseLength ∧ e.lock = none ∧ e.attrs = [] ∧ e.marks = Marks.none_)
      ∧ (nextGeneration 0 = 1 ∧ nextGeneration 255 = 1
        ∧ ∀ g : Byte, 1 ≤ g.toNat → g.toNat ≤ 254 → (nextGeneration g).toNat = g.toNat + 1)
      ∧ (∀ (g : Byte) (i : SlotNo), (mkHandle g i).toNat = g.toNat * 256 + i.val)
      ∧ ∀ (h : Handle) (i : SlotNo) (e : Entry), s.lookup h = some (i, e) ↔
          h.toNat = (s.slot i).generation.toNat * 256 + i.val ∧ (s.slot i).entry = some e

/-- AMEND judges in the order of its rule and rewrites the fields, reviving a STALE entry (R39, R40). -/
def Obligations.AmendRewritesTheEntry : Prop :=
  ∀ (s : State) (n : Fin 4), servesCommand n 0x02 s →
    let c := s.commandSlot n
    let lease := c.half Offset.lease
    let watch := (c.byte Offset.entryFlags).getLsbD 0
    ∃ t, exec .amend s = .next t
      ∧ (reachOf (c.byte Offset.reach) = none ∨ visibilityOf (c.byte Offset.visibility) = none →
          completesWith n .badParam [] [] s t)
      ∧ ∀ r v, reachOf (c.byte Offset.reach) = some r → visibilityOf (c.byte Offset.visibility) = some v →
          match s.lookup (c.half Offset.handle) with
          | none => completesWith n .unknown [] [] s t
          | some (i, e) =>
            if e.life = .spent then completesWith n .inactive [] [] s t
            else if lease = 0 ∧ e.origin ≠ .loc then completesWith n .badParam [] [] s t
            else if barsHost (c.option 0) e = true then completesWith n .locked [] [] s t
            else
              let length := if lease = 0 then none else some lease.toNat
              let d := { e with
                cls := c.byte Offset.cls, reach := r, visibility := v, watch := watch
                wake := (c.byte Offset.entryFlags).getLsbD 1, leaseLength := length, life := .live length
                marks := if e.watch = true ∧ watch = false then Marks.none_ else e.marks }
              let revived := e.life.isStale && e.watch && watch
              completesSlot n .ok [] s t ∧ keepsBut [.dir, .arb, .port, .notify, .doze] s t
                ∧ rewritesEntry i (if revived then d.marked .revived else d) s t
                ∧ (if revived then marksAndWakes [.cmd] .revived d (s.handleOf i) s t
                  else setsFlags [.cmd] s t ∧ t.doze = s.doze)

/-- PUT_ATTR and DROP_ATTR of the host judge in the order of R41 and edit the list without a mark (2.6 Put and Drop
Attribute, 1.10 Attributes). -/
def Obligations.HostAttributeEdits : Prop :=
  ∀ (s : State) (n : Fin 4),
    let c := s.commandSlot n
    let id := c.byte Offset.index
    let judged := fun (t : State) (content : SlotNo → Entry → Prop) =>
      if id.toNat = 0 ∨ id.toNat = 255 then completesWith n .badParam [] [] s t
      else
        match s.lookup (c.half Offset.handle) with
        | none => completesWith n .unknown [] [] s t
        | some (i, e) =>
          if e.life = .spent then completesWith n .inactive [] [] s t
          else if barsHost (c.option 0) e = true then completesWith n .locked [] [] s t
          else content i e
    (servesCommand n 0x03 s → ∃ t, exec .putAttr s = .next t ∧ judged t (fun i e =>
      if (∀ a ∈ e.attrs, a.id ≠ id) ∧ 6 ≤ e.attrs.length then completesWith n .attrFull [] [] s t
      else completesWith n .ok [] [.dir] s t ∧ ∃ l, rewritesEntry i { e with attrs := l } s t
        ∧ isPut { id := id, value := c.half Offset.value } e.attrs l))
    ∧ (servesCommand n 0x04 s → ∃ t, exec .dropAttr s = .next t ∧ judged t (fun i e =>
      if ∀ a ∈ e.attrs, a.id ≠ id then completesWith n .noAttr [] [] s t
      else completesWith n .ok [] [.dir] s t ∧ ∃ l, rewritesEntry i { e with attrs := l } s t ∧ isDrop id e.attrs l))

/-- RETIRE frees a LIVE or STALE entry at once, whatever its WATCH flag, without a mark (R46). -/
def Obligations.RetireFreesTheEntryAtOnce : Prop :=
  ∀ (s : State) (n : Fin 4), servesCommand n 0x05 s →
    let c := s.commandSlot n
    ∃ t, exec .retire s = .next t
      ∧ match s.lookup (c.half Offset.handle) with
        | none => completesWith n .unknown [] [] s t
        | some (i, e) =>
          if e.life = .spent then completesWith n .inactive [] [] s t
          else if barsHost (c.option 0) e = true then completesWith n .locked [] [] s t
          else completesWith n .ok [] [.dir] s t ∧ freesSlot i s t

/-- SEARCH_START claims the lowest-numbered IDLE search context for a LOCAL search (R91). -/
def Obligations.SearchStartClaimsTheLowestIdleContext : Prop :=
  ∀ (s : State) (n : Fin 4), servesCommand n 0x09 s →
    let c := s.commandSlot n
    let length := (c.byte Offset.tagLength).toNat
    let limit := (c.byte Offset.value).toNat
    let start := (c.byte Offset.start).toNat
    let fields := 1 ≤ length ∧ length ≤ 16 ∧ 1 ≤ limit ∧ limit ≤ 32
    ∃ t, exec .searchStart s = .next t
      ∧ (¬fields → completesWith n .badParam [(Offset.state, 0xFF)] [] s t)
      ∧ (fields → (∀ k, s.searchContext k ≠ .idle) → completesWith n .busy [(Offset.state, 0xFF)] [] s t)
      ∧ (fields → ∀ k, s.searchContext k = .idle → (∀ j, j < k → s.searchContext j ≠ .idle) →
          completesWith n .ok [(Offset.state, BitVec.ofNat 8 k.val)] [.search] s t
          ∧ (∀ j, j ≠ k → t.searchContext j = s.searchContext j)
          ∧ t.searchContext k = .running
              { owner := .loc, burst := c.option 3, pattern := c.dataBytes length, mask := c.half Offset.mask
                exact := c.option 1, classFilter := if c.option 4 then some (c.byte Offset.cls) else none
                includeStale := c.option 2, start := start, cursor := start, limit := limit, results := [] }
          ∧ t.classPending .search = true)

/-- RESULTS returns state, owner, cursor, count and eight handles and changes nothing but the slot (R103). -/
def Obligations.ResultsReadsASearchContext : Prop :=
  ∀ (s : State) (n : Fin 4), servesCommand n 0x0B s →
    let c := s.commandSlot n
    let b := (c.byte Offset.state).toNat
    let first := (c.byte Offset.index).toNat
    ∃ t, exec .results s = .next t
      ∧ (3 < b ∨ 31 < first → completesWith n .badParam
          ([(Offset.state, 0x00), (Offset.owner, 0x00)] ++ halfAt Offset.value 0 ++ [(Offset.index, 0x00)]
            ++ dataOutputs [])
          [] s t)
      ∧ ∀ k : Fin 4, k.val = b → first ≤ 31 →
          let x := s.searchContext k
          let list := match x with | .idle => [] | .running r | .done _ r => r.results
          let cursor := match x with | .idle => 0 | .running r | .done _ r => r.cursor
          let state : Byte := match x with
            | .idle => 0x00 | .running _ => 0x01 | .done .complete _ => 0x02 | .done .filled _ => 0x03
            | .done .cancelled _ => 0x04
          let owner : Byte := match x with
            | .idle => 0xFF
            | .running r | .done _ r => match r.owner with | .loc => 0x00 | .trunk d => BitVec.ofNat 8 (128 + d.val)
          completesWith n .ok
            ([(Offset.state, state), (Offset.owner, owner)] ++ halfAt Offset.value (BitVec.ofNat 16 cursor)
              ++ [(Offset.index, BitVec.ofNat 8 list.length)]
              ++ dataOutputs ((List.range 8).flatMap (fun j => halfBytes ((list[first + j]?).getD nullHandle)))) [] s t

/-- COLLECT returns the next marked entry after the cursor, empties its marks and frees a SPENT one (R165, R166). -/
def Obligations.CollectReturnsMarksInRotation : Prop :=
  ∀ (s : State) (n : Fin 4), servesCommand n 0x0E s →
    let outputs := fun (h : Handle) (state marks : Byte) (tag : List Byte) =>
      halfAt Offset.handle h
        ++ [(Offset.state, state), (Offset.marks, marks), (Offset.tagLength, BitVec.ofNat 8 tag.length)]
        ++ dataOutputs tag
    let marked := fun i => (s.entryOf i).any (fun e => decide (e.marks ≠ Marks.none_))
    let distance := fun (i : SlotNo) => (i - s.dir.collectCursor - 1).val
    ∃ t, exec .collect s = .next t
      ∧ ((∀ i, marked i = false) → completesWith n .none_ (outputs nullHandle 0x00 0x00 []) [] s t)
      ∧ ∀ i e, s.entryOf i = some e → marked i = true → (∀ j, distance j < distance i → marked j = false) →
          completesWith n .ok (outputs (s.handleOf i) e.life.toByte e.marks.toByte e.tag) [.dir] s t
          ∧ t.dir.collectCursor = i ∧ (∀ j, j ≠ i → t.slot j = s.slot j)
          ∧ (if e.life = .spent then
              t.slot i = { s.slot i with entry := none } ∧ t.dir.free = s.dir.free ++ [i]
            else t.slot i = { s.slot i with entry := some { e with marks := Marks.none_ } } ∧ t.dir.free = s.dir.free)

/-- READ_FORWARD returns a waiting seek, or NONE, and changes nothing but the slot (R135). -/
def Obligations.ReadForwardReadsAWaitingSeek : Prop :=
  ∀ (s : State) (n : Fin 4), servesCommand n 0x0F s →
    let b := ((s.commandSlot n).byte Offset.state).toNat
    let outputs := fun (state ticket requester : Byte) (pattern : List Byte) (count : Nat) (h : Nat → Handle) =>
      [(Offset.state, state), (Offset.ticket, ticket), (Offset.owner, requester),
        (Offset.tagLength, BitVec.ofNat 8 pattern.length)]
        ++ dataOutputs pattern ++ [(Offset.index, BitVec.ofNat 8 count)]
        ++ halfAt Offset.handle (h 0) ++ halfAt Offset.mask (h 1) ++ halfAt Offset.lease (h 2)
        ++ halfAt Offset.value (h 3)
    ∃ t, exec .readForward s = .next t
      ∧ (5 < b → completesWith n .badParam (outputs 0x00 0x00 0x00 [] 0 (fun _ => nullHandle)) [] s t)
      ∧ ∀ k : Fin 6, k.val = b →
          let x := s.context k
          (x.state ≠ .awaitingHost →
            completesWith n .none_ (outputs x.state.toByte x.ticket 0x00 [] 0 (fun _ => nullHandle)) [] s t)
          ∧ ∀ node start options cls pattern mask, x.state = .awaitingHost → x.requester = some node →
              x.request = some (.seek start options cls pattern mask) →
              let guarded := (x.results.filter (fun y => y.guarded)).map (fun y => y.handle)
              completesWith n .ok (outputs 0x04 x.ticket node pattern guarded.length
                (fun j => (guarded[j]?).getD nullHandle)) [] s t

/-- ANSWER with the ticket of a waiting seek builds its OK reply from what is allowed and still valid (7.5 Forwarded
Seeks). It rests on choices of the model: log 17. -/
def Obligations.AnswerBuildsTheConsentedReply : Prop :=
  ∀ (s : State) (n : Fin 4), servesCommand n 0x10 s →
    let c := s.commandSlot n
    let b := (c.byte Offset.state).toNat
    ∃ t, exec .answer s = .next t
      ∧ (5 < b → completesWith n .badParam [(Offset.index, 0x00)] [] s t)
      ∧ ∀ k : Fin 6, k.val = b →
          let x := s.context k
          (x.state ≠ .awaitingHost ∨ x.ticket ≠ c.byte Offset.ticket →
            completesWith n .tooLate [(Offset.index, 0x00)] [] s t)
          ∧ (x.state = .awaitingHost → x.ticket = c.byte Offset.ticket → ∀ next, x.nextCursor = some next →
              let allowed := fun (j : Nat) => match x.results[j]? with
                | none => false
                | some y => !y.guarded
                    || (c.byte Offset.allow).getLsbD ((x.results.take j).countP (fun z => z.guarded))
              let items := (List.range x.results.length).filterMap (fun j =>
                match x.results[j]? with
                | none => none
                | some y =>
                  if allowed j = true then
                    match s.lookup y.handle with
                    | some (_, e) =>
                      if e.life.isLive = true ∧ e.visibility ≠ .closed then some { y with reach := e.reach, cls := e.cls }
                      else none
                    | none => none
                  else none)
              completesWith n .ok [(Offset.index, BitVec.ofNat 8 items.length)] [.trunk] s t
              ∧ t.context k = { x with state := .replyReady, linked := none, deadline := none,
                                       reply := some (seekReply .ok next items) }
              ∧ t.trunk.ready = s.trunk.ready ++ [k] ∧ t.trunk.received = s.trunk.received
              ∧ ∀ d, d ≠ k → t.context d = s.context d)

/-- PURGE frees every LIVE or STALE entry of the selected origin, in slot order (R51). -/
def Obligations.PurgeFreesTheSelectedOrigin : Prop :=
  ∀ (s : State) (n : Fin 4), servesCommand n 0x11 s →
    let sel := ((s.commandSlot n).byte Offset.selector).toNat
    let goes := fun i => (s.entryOf i).any (fun e => e.life ≠ .spent
      && ((decide (e.origin = .loc) && decide (sel = 1 ∨ sel = 3)) || (decide (e.origin ≠ .loc) && decide (sel = 2 ∨ sel = 3))))
    ∃ t, exec .purge s = .next t
      ∧ (sel = 0 ∨ 3 < sel → completesWith n .badParam (halfAt Offset.value 0) [] s t)
      ∧ (1 ≤ sel → sel ≤ 3 →
          completesWith n .ok (halfAt Offset.value (BitVec.ofNat 16 (allSlots.countP goes))) [.dir] s t
          ∧ (∀ i, t.slot i = if goes i then { s.slot i with entry := none } else s.slot i)
          ∧ t.dir.free = s.dir.free ++ allSlots.filter goes ∧ t.dir.collectCursor = s.dir.collectCursor)

/-- SET_PARAM puts a value in range in force and refuses any other with the old value (R158). -/
def Obligations.SetParamTakesAValueInRange : Prop :=
  State.reset.params = {
      dirAddress := 112, leaseMin := 10, leaseMax := 3600, grace := 30, lockMax := 60, fwdDeadline := 50,
      msDivider := 7999, trunkWatch := false, trunkWake := false, linkSpeed := .kbit100 }
    ∧ ∀ (s : State) (n : Fin 4), servesCommand n 0x12 s →
    let id := ((s.commandSlot n).byte Offset.selector).toNat
    let v := ((s.commandSlot n).half Offset.value).toNat
    let p := s.params
    ∃ t, exec .setParam s = .next t
      ∧ let row := fun (valid : Prop) (q : Params) (old : Nat) =>
          (valid → completesWith n .ok (halfAt Offset.value (BitVec.ofNat 16 v)) [.params] s t ∧ t.params = q)
          ∧ (¬valid → completesWith n .badParam (halfAt Offset.value (BitVec.ofNat 16 old)) [] s t)
        (id = 1 → row (112 ≤ v ∧ v ≤ 127) { p with dirAddress := BitVec.ofNat 8 v } p.dirAddress.toNat)
        ∧ (id = 2 → row (1 ≤ v ∧ v ≤ p.leaseMax) { p with leaseMin := v } p.leaseMin)
        ∧ (id = 3 → row (1 ≤ v ∧ p.leaseMin ≤ v) { p with leaseMax := v } p.leaseMax)
        ∧ (id = 4 → row (v ≤ 255) { p with grace := v } p.grace)
        ∧ (id = 5 → row (1 ≤ v ∧ v ≤ 255) { p with lockMax := v } p.lockMax)
        ∧ (id = 6 → row (1 ≤ v ∧ v ≤ 255) { p with fwdDeadline := v } p.fwdDeadline)
        ∧ (id = 7 → row (999 ≤ v ∧ v ≤ 39999) { p with msDivider := v } p.msDivider)
        ∧ (id = 8 → row (v ≤ 3) { p with trunkWatch := v.testBit 0, trunkWake := v.testBit 1 }
            (p.trunkWatch.toNat + 2 * p.trunkWake.toNat))
        ∧ (id = 9 → row (v = 100 ∨ v = 400) { p with linkSpeed := if v = 100 then .kbit100 else .kbit400 }
            (match p.linkSpeed with | .kbit100 => 100 | .kbit400 => 400))
        ∧ (id = 0 ∨ 9 < id → completesWith n .badParam (halfAt Offset.value 0) [] s t)

/-- SEARCH_CANCEL ends a RUNNING LOCAL search without SRCH, SEARCH_RELEASE returns a DONE one to IDLE (R102, R104). -/
def Obligations.SearchCancelAndReleaseEndLocalSearches : Prop :=
  (∀ (s : State) (n : Fin 4), servesCommand n 0x0A s →
    let b := ((s.commandSlot n).byte Offset.state).toNat
    ∃ t, exec .searchCancel s = .next t
      ∧ (3 < b → completesWith n .badParam [] [] s t)
      ∧ ∀ k : Fin 4, k.val = b →
          match s.searchContext k with
          | .idle => completesWith n .none_ [] [] s t
          | .done _ r =>
            if r.owner = .loc then completesWith n .none_ [] [] s t else completesWith n .badParam [] [] s t
          | .running r =>
            if r.owner = .loc then
              completesWith n .ok [] [.search] s t ∧ t.searchContext k = .done .cancelled r
                ∧ ∀ j, j ≠ k → t.searchContext j = s.searchContext j
            else completesWith n .badParam [] [] s t)
    ∧ (∀ (s : State) (n : Fin 4), servesCommand n 0x0D s →
    let b := ((s.commandSlot n).byte Offset.state).toNat
    ∃ t, exec .searchRelease s = .next t
      ∧ (3 < b → completesWith n .badParam [] [] s t)
      ∧ ∀ k : Fin 4, k.val = b →
          match s.searchContext k with
          | .idle => completesWith n .ok [] [] s t
          | .running r =>
            if r.owner = .loc then completesWith n .busy [] [] s t else completesWith n .badParam [] [] s t
          | .done _ r =>
            if r.owner = .loc then
              completesWith n .ok [] [.search] s t ∧ t.searchContext k = .idle
                ∧ ∀ j, j ≠ k → t.searchContext j = s.searchContext j
            else completesWith n .badParam [] [] s t)

/-- READ returns the whole record of an entry and READ_ATTR one pair; both change nothing but the slot (R48, R49). -/
def Obligations.ReadsReturnTheRecordAndItsPairs : Prop :=
  (∀ (s : State) (n : Fin 4), servesCommand n 0x06 s →
    ∃ t, exec .read s = .next t
      ∧ (t.commandSlot n).half Offset.handle = (s.commandSlot n).half Offset.handle
      ∧ match s.lookup ((s.commandSlot n).half Offset.handle) with
        | none => completesWith n .unknown
            ([(Offset.state, 0x00), (Offset.selector, 0x00), (Offset.owner, 0x00), (Offset.tagLength, 0x00)]
              ++ dataOutputs []
              ++ [(Offset.cls, 0x00), (Offset.reach, 0x00), (Offset.visibility, 0x00), (Offset.entryFlags, 0x00)]
              ++ halfAt Offset.value 0 ++ halfAt Offset.lease 0
              ++ [(Offset.grace, 0x00), (Offset.holder, 0xFF), (Offset.hold, 0x00), (Offset.index, 0x00),
                  (Offset.marks, 0x00)]) [] s t
        | some (_, e) => completesWith n .ok
            ([(Offset.state, e.life.toByte), (Offset.selector, e.origin.toByte), (Offset.owner, e.origin.ownerByte),
              (Offset.tagLength, BitVec.ofNat 8 e.tag.length)]
              ++ dataOutputs e.tag
              ++ [(Offset.cls, e.cls), (Offset.reach, reachByte e.reach), (Offset.visibility, e.visibility.toByte),
                  (Offset.entryFlags, entryFlagsByte e.watch e.wake)]
              ++ halfAt Offset.value (BitVec.ofNat 16 (match e.life with
                  | .live (some r) => r | .stale g => g | .live none | .spent => 0))
              ++ halfAt Offset.lease (BitVec.ofNat 16 (e.leaseLength.getD 0))
              ++ [(Offset.grace, match e.life with | .stale g => BitVec.ofNat 8 g | .live _ | .spent => 0x00),
                  (Offset.holder, match e.lock with | some k => k.holder.toByte | none => 0xFF),
                  (Offset.hold, match e.lock with | some k => BitVec.ofNat 8 k.lapse | none => 0x00),
                  (Offset.index, BitVec.ofNat 8 e.attrs.length), (Offset.marks, e.marks.toByte)]) [] s t)
    ∧ (∀ (s : State) (n : Fin 4), servesCommand n 0x0C s →
    let c := s.commandSlot n
    let k := (c.byte Offset.index).toNat
    let outputs := fun (id : Byte) (v : Half) => (Offset.index, id) :: halfAt Offset.value v
    ∃ t, exec .readAttr s = .next t
      ∧ if 5 < k then completesWith n .badParam (outputs 0 0) [] s t
        else
          match s.lookup (c.half Offset.handle) with
          | none => completesWith n .unknown (outputs 0 0) [] s t
          | some (_, e) =>
            (e.attrs.length ≤ k → completesWith n .noAttr (outputs 0 0) [] s t)
            ∧ ∀ h : k < e.attrs.length, completesWith n .ok (outputs (e.attrs[k]'h).id (e.attrs[k]'h).value) [] s t)

/-- LOCK sets or renews the LOCAL lock whatever FORCE says; UNLOCK releases it, or any lock with FORCE (R73, R77). -/
def Obligations.LockAndUnlockOfTheHost : Prop :=
  (∀ (s : State) (n : Fin 4), servesCommand n 0x07 s →
    let c := s.commandSlot n
    let outputs := fun (holder lapse : Byte) => [(Offset.holder, holder), (Offset.hold, lapse)]
    let h := min (c.byte Offset.hold).toNat s.params.lockMax
    ∃ t, exec .lock s = .next t
      ∧ if c.byte Offset.hold = 0x00 then completesWith n .badParam (outputs 0xFF 0x00) [] s t
        else
          match s.lookup (c.half Offset.handle) with
          | none => completesWith n .unknown (outputs 0xFF 0x00) [] s t
          | some (i, e) =>
            if e.life = .spent then completesWith n .inactive (outputs 0xFF 0x00) [] s t
            else
              match e.lock with
              | some { holder := .node m, lapse := l } =>
                completesWith n .locked (outputs m (BitVec.ofNat 8 l)) [] s t
              | some { holder := .loc, lapse := _ } | none =>
                completesWith n .ok (outputs 0x00 (BitVec.ofNat 8 h)) [.dir] s t
                  ∧ rewritesEntry i { e with lock := some { holder := .loc, lapse := h } } s t)
    ∧ (∀ (s : State) (n : Fin 4), servesCommand n 0x08 s →
    let c := s.commandSlot n
    let outputs := fun (holder lapse : Byte) => [(Offset.holder, holder), (Offset.hold, lapse)]
    ∃ t, exec .unlock s = .next t
      ∧ match s.lookup (c.half Offset.handle) with
        | none => completesWith n .unknown (outputs 0xFF 0x00) [] s t
        | some (i, e) =>
          if e.life = .spent then completesWith n .inactive (outputs 0xFF 0x00) [] s t
          else
            match e.lock with
            | none => completesWith n .notHolder (outputs 0xFF 0x00) [] s t
            | some k =>
              if k.holder = .loc ∨ c.option 0 = true then
                completesWith n .ok (outputs k.holder.toByte (BitVec.ofNat 8 k.lapse)) [.dir] s t
                  ∧ rewritesEntry i { e with lock := none } s t
              else completesWith n .notHolder (outputs k.holder.toByte (BitVec.ofNat 8 k.lapse)) [] s t)

/-- WINDOW_WRITE stores a field of an EMPTY slot and is otherwise ignored (8.2 Command Slots, 12.3 Command Slot, 12.4
Register Window). It rests on choices of the model: log 19. -/
def Obligations.FieldWritesAreStoredInAnEmptySlot : Prop :=
  ∀ (s : State) (a v : Byte), s.settled = true → s.loadEnded = true → s.port.hrstLow = false →
    (192 ≤ a.toNat → exec (.windowWrite a v) s = .next s)
    ∧ ∀ (n : Fin 4) (o : Fin 48), a.toNat = 48 * n.val + o.val →
        let c := s.commandSlot n
        ∃ t, exec (.windowWrite a v) s = .next t
          ∧ (if c.state = .empty ∧ o.val ≠ 1 ∧ o.val ≠ 2 ∧ o.val < 43 then
              keepsBut [.port] s t ∧ t.port.postOrder = s.port.postOrder ∧ keepsPins s t
                ∧ (∀ m, m ≠ n → t.commandSlot m = s.commandSlot m) ∧ (t.commandSlot n).state = .empty
                ∧ (t.commandSlot n).byte o = v ∧ ∀ p, p ≠ o → (t.commandSlot n).byte p = c.byte p
            else t = s)

/-- FLAGS and TRUNK CAUSE are write-1-to-clear, ENABLES stores the byte; clearing WAKE discards the record (R169,
R181). -/
def Obligations.FlagCauseAndEnableWrites : Prop :=
  ∀ (s : State) (v : Byte), s.settled = true →
    (s.loadEnded = false → exec (.flagsWrite v) s = .next s)
    ∧ (s.loadEnded = true → s.port.hrstLow = false →
      (∃ t, exec (.flagsWrite v) s = .next t ∧ keepsBut [.notify, .doze] s t
        ∧ (∀ f, t.flag f = (s.flag f && !v.getLsbD f.bit))
        ∧ t.notify.enables = s.notify.enables ∧ t.notify.cause = s.notify.cause
        ∧ t.doze = { s.doze with record := if v.getLsbD 5 then none else s.doze.record }
        ∧ (v.getLsbD 5 = true → t.wakePin = false))
      ∧ (∃ t, exec (.trunkCauseWrite v) s = .next t ∧ keepsBut [.notify] s t
        ∧ (∀ c, t.cause c = (s.cause c && !v.getLsbD c.bit))
        ∧ t.notify.flags = s.notify.flags ∧ t.notify.enables = s.notify.enables)
      ∧ (∃ t, exec (.enablesWrite v) s = .next t ∧ keepsBut [.notify] s t
        ∧ t.notify = { s.notify with enables := v }))

/-- POWER writes store host state and wake enable; DOZE answers every waiting seek DEFERRED (10.2 The POWER Register,
7.5 Forwarded Seeks). It rests on choices of the model: log 19. -/
def Obligations.PowerWritesSetTheHostState : Prop :=
  ∀ (s : State) (v : Byte), s.settled = true → s.loadEnded = true → s.port.hrstLow = false →
    (∃ t, exec (.powerDoze v) s = .next t ∧ keepsBut [.doze, .trunk] s t
      ∧ t.doze = { s.doze with host := .doze, wakeEnable := v.getLsbD 1 }
      ∧ (∀ c, t.context c =
          if (s.context c).state = .awaitingHost then (s.context c).answeredWith .deferred else s.context c)
      ∧ t.trunk.ready = s.trunk.ready ++ (List.finRange 6).filter (fun c => (s.context c).state = .awaitingHost)
      ∧ t.trunk.received = s.trunk.received
      ∧ t.irq = false)
    ∧ (∃ t, exec (.powerAwake v) s = .next t ∧ keepsBut [.doze] s t
      ∧ t.doze = { s.doze with host := .awake, wakeEnable := v.getLsbD 1 }
      ∧ (t.irq = true ↔ ∃ f, s.flag f = true ∧ s.enabled f = true))

/-- IRQ and WAKE are asserted exactly under their conditions (9.5 Enables and IRQ, 10.5 Wake Enable and the WAKE
Output). -/
def Obligations.OutputsFollowFlagsAndRecord : Prop :=
  ∀ s : State,
    (s.irq = true ↔ s.resetLow = false ∧ s.port.hrstLow = false ∧ s.doze.host = .awake
      ∧ ∃ f, s.flag f = true ∧ s.enabled f = true)
    ∧ (s.wakePin = true ↔ s.resetLow = false ∧ s.port.hrstLow = false ∧ s.doze.record ≠ none
      ∧ s.doze.wakeEnable = true)

/-- A WRITE transaction writes its data bytes at rising addresses; READ, void and short ones write nothing (8.1 The
Serial Host Port, 12.4 Register Window). It rests on choices of the model: log 8. -/
def Obligations.WriteTransactionsSpellWindowWrites : Prop :=
  (∀ (bytes : List Byte) (partialByte : List Bool), partialByte.length < 8 →
      transactionOf (bytes.flatMap bitsOf ++ partialByte) = transactionCommands bytes)
    ∧ (∀ (address : Byte) (data : List Byte),
        (transactionCommands (0x02 :: address :: data)).length = data.length
        ∧ (∀ k, (h : k < data.length) →
            (transactionCommands (0x02 :: address :: data))[k]?
              = some (writeCommand (address + BitVec.ofNat 8 k) data[k])))
    ∧ (∀ (opcode : Byte) (rest : List Byte), opcode ≠ 0x02 ∨ rest = [] → transactionCommands (opcode :: rest) = [])
    ∧ transactionCommands [] = []
    ∧ (∀ a v : Byte, (writeCommand a v).wellFormed = true)
    ∧ (∀ v : Byte, writeCommand 0xC1 v = .flagsWrite v ∧ writeCommand 0xC2 v = .enablesWrite v
        ∧ writeCommand 0xC3 v = .trunkCauseWrite v
        ∧ writeCommand 0xC4 v = if v.getLsbD 0 then .powerAwake v else .powerDoze v)
    ∧ (∀ (n : Fin 4) (v : Byte), writeCommand (BitVec.ofNat 8 (48 * n.val + 1)) v
        = if v = 0x01 then .post n else if v = 0x02 then .release n else if v = 0x03 then .abort n
          else .windowWrite (BitVec.ofNat 8 (48 * n.val + 1)) v)
    ∧ (∀ a v : Byte, (∀ n : Fin 4, a.toNat ≠ 48 * n.val + 1) → a ∉ [0xC1#8, 0xC2#8, 0xC3#8, 0xC4#8] →
        writeCommand a v = .windowWrite a v)
    ∧ ∀ (s : State) (bits : List Bool),
        (s.resetLow = false → s.port.hrstLow = false → s.port.transaction = none →
          hselRise (clocked bits (hselFall s)) = { s with pending := s.pending ++ transactionOf bits })
        ∧ (s.resetLow = true ∨ s.port.hrstLow = true → hselFall s = s)

/-- POST, RELEASE and ABORT act by the slot state; with the port shut every window write is ignored (8.2 Command
Slots, 8.1 The Serial Host Port). -/
def Obligations.ControlWritesActByTheSlotState : Prop :=
  (∀ (s : State) (n : Fin 4) (a v : Byte), s.settled = true → s.loadEnded = false ∨ s.port.hrstLow = true →
    ∀ i ∈ [Instr.post n, .release n, .abort n, .flagsWrite v, .trunkCauseWrite v, .enablesWrite v, .powerDoze v,
      .powerAwake v, .windowWrite a v], exec i s = .next s)
    ∧ (∀ (s : State) (n : Fin 4), s.settled = true → s.loadEnded = true → s.port.hrstLow = false →
    let c := s.commandSlot n
    let others := fun t : State => (∀ m, m ≠ n → t.commandSlot m = s.commandSlot m) ∧ keepsPins s t
    (∃ t, exec (.post n) s = .next t
      ∧ (if c.state = .empty then
          keepsBut [.port] s t ∧ others t ∧ t.commandSlot n = { c with state := .posted }
            ∧ t.port.postOrder = s.port.postOrder ++ [n]
        else t = s))
    ∧ (∃ t, exec (.release n) s = .next t
      ∧ (if c.state = .done then
          keepsBut [.port] s t ∧ others t ∧ (t.commandSlot n).state = .empty
            ∧ (∀ o, (t.commandSlot n).byte o = 0x00) ∧ t.port.postOrder = s.port.postOrder
        else t = s))
    ∧ (∃ t, exec (.abort n) s = .next t
      ∧ (if c.state = .posted then
          keepsBut [.port, .notify] s t ∧ others t ∧ setsFlags [.cmd] s t ∧ (t.commandSlot n).state = .done
            ∧ (t.commandSlot n).byte Offset.result = 0x12
            ∧ (∀ o, o ≠ Offset.result → (t.commandSlot n).byte o = c.byte o)
            ∧ t.port.postOrder = s.port.postOrder.filter (fun m => m ≠ n)
        else t = s))
    ∧ ∀ v : Byte, v ≠ 0x01 → v ≠ 0x02 → v ≠ 0x03 →
        exec (.windowWrite (BitVec.ofNat 8 (48 * n.val + 1)) v) s = .next s)

/-- The window reads as the register window gives, a READ shifts it out with its groups whole, and the state counts
add up to 256 (12.4 Register Window, 12.3 Command Slot, 8.1 The Serial Host Port, 1.14 State Counts and the Collect
Cursor). It rests on choices of the model: log 8, log 9. -/
def Obligations.WindowShowsTheState : Prop :=
  (∀ s : State, s.settled = true →
    (s.windowByte 0xC0).getLsbD 0 = !s.loadEnded
    ∧ (∀ k, 2 ≤ k → (s.windowByte 0xC0).getLsbD k = false ∧ (s.windowByte 0xC4).getLsbD k = false)
    ∧ ((s.windowByte 0xC0).getLsbD 1 = true ↔ ∃ i e, s.entryOf i = some e ∧ e.marks ≠ Marks.none_)
    ∧ s.windowByte 0xC1 = s.notify.flags ∧ s.windowByte 0xC2 = s.notify.enables ∧ s.windowByte 0xC3 = s.notify.cause
    ∧ (s.windowByte 0xC4).getLsbD 0 = decide (s.doze.host = .awake) ∧ (s.windowByte 0xC4).getLsbD 1 = s.doze.wakeEnable
    ∧ s.windowByte 0xC5 = BitVec.ofNat 8 s.time.owed
    ∧ s.windowByte 0xC6 = s.loader.outcome.toByte
    ∧ s.windowByte 0xC7 = BitVec.ofNat 8 s.loader.presetsLoaded
    ∧ s.windowByte 0xC8 = BitVec.ofNat 8 s.loader.presetsSkipped
    ∧ [0xD0, 0xD1, 0xD2, 0xD3, 0xD4, 0xD5, 0xD6, 0xD7].map s.windowByte
        = halfBytes (BitVec.ofNat 16 s.freeCount) ++ halfBytes (BitVec.ofNat 16 s.liveCount)
          ++ halfBytes (BitVec.ofNat 16 s.staleCount) ++ halfBytes (BitVec.ofNat 16 s.spentCount)
    ∧ [0xD8, 0xD9, 0xDA, 0xDB, 0xDC].map s.windowByte = (match s.doze.record with
        | none => [0x00, 0x00, 0x00, 0xFF, 0x00]
        | some (.seek h node ticket) => [0x01, hiByte h, loByte h, node, ticket]
        | some (.mark h) => [0x02, hiByte h, loByte h, 0xFF, 0x00])
    ∧ [0xE0, 0xE1, 0xE2, 0xE3, 0xE4, 0xE5, 0xE6, 0xE7, 0xE8, 0xE9, 0xEA, 0xEB].map s.windowByte
        = [s.params.dirAddress, match s.params.linkSpeed with | .kbit100 => 0x01 | .kbit400 => 0x04]
          ++ halfBytes (BitVec.ofNat 16 s.params.leaseMin) ++ halfBytes (BitVec.ofNat 16 s.params.leaseMax)
          ++ [BitVec.ofNat 8 s.params.grace, BitVec.ofNat 8 s.params.lockMax, BitVec.ofNat 8 s.params.fwdDeadline]
          ++ halfBytes (BitVec.ofNat 16 s.params.msDivider)
          ++ [BitVec.ofNat 8 (s.params.trunkWatch.toNat + 2 * s.params.trunkWake.toNat)]
    ∧ (∀ a : Byte, (0xC9 ≤ a.toNat ∧ a.toNat ≤ 0xCF) ∨ (0xDD ≤ a.toNat ∧ a.toNat ≤ 0xDF) ∨ 0xEC ≤ a.toNat →
        s.windowByte a = 0x00)
    ∧ ∀ (a : Byte) (n : Fin 4) (o : Fin 48), a.toNat = 48 * n.val + o.val → s.windowByte a
        = if o.val = 1 then (s.commandSlot n).state.toByte else if 43 ≤ o.val then 0x00 else (s.commandSlot n).byte o)
    ∧ (∀ s : State, s.freeCount + s.liveCount + s.staleCount + s.spentCount = 256
    ∧ (freeListInv s → s.freeCount = s.dir.free.length)
    ∧ (s.hsdo = none ↔ s.port.transaction = none) ∧ (hselRise s).hsdo = none)
    ∧ (∀ (s : State) (a : Byte) (data : List Byte), s.settled = true → s.resetLow = false → s.port.hrstLow = false →
      s.port.transaction = none →
      shiftedOut (bitsOf 0x03 ++ bitsOf a ++ data.flatMap bitsOf) (hselFall s)
        = (List.replicate 16 false
            ++ (List.range data.length).flatMap (fun k => bitsOf (s.windowByte (a + BitVec.ofNat 8 k)))).map some)
    ∧ (∀ (s : State) (opcode : Byte) (bits : List Bool), s.resetLow = false → s.port.hrstLow = false →
      s.port.transaction = none → opcode ≠ 0x03 →
      shiftedOut (bitsOf opcode ++ bits) (hselFall s) = List.replicate (8 + bits.length) (some false))
    ∧ ∀ (s : State) (t : Transaction) (a : Byte), s.port.transaction = some t → t.opcode = some 0x03 →
      t.address = some a → t.gathered = [] →
      (∀ b left, t.held = b :: left →
        hsckFall s = s.setTransaction (some { t with held := left, shifting := bitsOf b }))
      ∧ (t.held = [] → hsckFall s = s.setTransaction (some { t with
          shifting := bitsOf (s.windowByte a)
          held := (if a = 0xD0 then [0xD1, 0xD2, 0xD3, 0xD4, 0xD5, 0xD6, 0xD7]
            else if a = 0xD8 then [0xD9, 0xDA, 0xDB, 0xDC]
            else if a = 0xE0 then [0xE1, 0xE2, 0xE3, 0xE4, 0xE5, 0xE6, 0xE7, 0xE8, 0xE9, 0xEA, 0xEB]
            else []).map s.windowByte }))

/-- ANNOUNCE of a new tag allocates an entry of the announcing node, CREATED under WATCH (R35). -/
def Obligations.AnnounceCreatesANewEntry : Prop :=
  ∀ (s : State) (c : Fin 6) (m : Byte) (payload tag : List Byte) (cls vis : Byte) (lease : Half),
    servesRequest c m 0x01 payload s → parseRequest 0x01 payload = some (.announce tag cls vis lease) →
    let r := lease.toNat
    let g := if r < s.params.leaseMin then s.params.leaseMin else if s.params.leaseMax < r then s.params.leaseMax else r
    let reply := fun (code : ResultCode) (h : Handle) (granted : Nat) =>
      ({ kind := 0x81, code := code, body := halfBytes h ++ halfBytes (BitVec.ofNat 16 granted) } : Reply)
    let fields := 1 ≤ tag.length ∧ tag.length ≤ 16 ∧ vis.toNat ≤ 1 ∧ r ≠ 0
    ∃ t, exec .announce s = .next t
      ∧ (¬fields → repliesWith c (reply .badParam nullHandle 0) [] s t)
      ∧ (fields → ¬tagTaken tag s → s.dir.free = [] → repliesWith c (reply .full nullHandle 0) [] s t)
      ∧ (fields → ¬tagTaken tag s → ∀ i rest, s.dir.free = i :: rest →
          let h := mkHandle (nextGeneration (s.slot i).generation) i
          buildsReply c (reply .ok h g) s t ∧ keepsBut [.dir, .trunk, .arb, .notify, .doze] s t
          ∧ ∃ e : Entry, allocatesSlot i (e.marked .created) s t ∧ marksAndWakes [] .created e h s t
            ∧ e.origin = .trunk m ∧ e.tag = tag ∧ e.cls = cls ∧ e.reach = some m ∧ e.visibility.toByte = vis
            ∧ e.watch = s.params.trunkWatch ∧ e.wake = s.params.trunkWake ∧ e.leaseLength = some g
            ∧ e.life = .live (some g) ∧ e.lock = none ∧ e.attrs = [] ∧ e.marks = Marks.none_)

/-- ANNOUNCE of a held tag re-announces the own entry or is answered DUPLICATE (R36, R37). -/
def Obligations.AnnounceMeetsAHeldTag : Prop :=
  ∀ (s : State) (c : Fin 6) (m : Byte) (payload tag : List Byte) (cls vis : Byte) (lease : Half) (i : SlotNo) (e : Entry)
    (v : Visibility),
    servesRequest c m 0x01 payload s → parseRequest 0x01 payload = some (.announce tag cls vis lease) →
    1 ≤ tag.length → tag.length ≤ 16 → vis.toNat ≤ 1 → visibilityOf vis = some v → lease.toNat ≠ 0 →
    s.entryOf i = some e → e.countsForTag = true → e.tag = tag →
    (∀ j d, s.entryOf j = some d → d.countsForTag = true → d.tag = tag → j = i) →
    let r := lease.toNat
    let g := if r < s.params.leaseMin then s.params.leaseMin else if s.params.leaseMax < r then s.params.leaseMax else r
    let reply := fun (code : ResultCode) (h : Handle) (granted : Nat) =>
      ({ kind := 0x81, code := code, body := halfBytes h ++ halfBytes (BitVec.ofNat 16 granted) } : Reply)
    (e.origin ≠ .trunk m → e.origin = .loc ∨ e.life.isLive = true →
      ∃ t, exec .announce s = .next t ∧ repliesWith c (reply .duplicate nullHandle 0) [] s t)
    ∧ (e.origin = .trunk m → ∃ t, exec .announce s = .next t
      ∧ buildsReply c (reply .ok (s.handleOf i) g) s t ∧ keepsBut [.dir, .trunk, .arb, .notify, .doze] s t
      ∧ (let d := { e with cls := cls, visibility := v, reach := some m, leaseLength := some g, life := .live (some g) }
        let d := if e.life.isStale then d.marked .revived else d
        let d := if e.cls ≠ cls ∨ e.visibility ≠ v then d.marked .changed else d
        rewritesEntry i d s t
        ∧ let new := decide (d.marks ≠ e.marks)
          let woken := new && e.wake && s.captures
          setsFlags ((if new then [.mark] else []) ++ (if woken then [.wake] else [])) s t
          ∧ t.doze = (if woken then { s.doze with record := some (.mark (s.handleOf i)) } else s.doze)))

/-- ANNOUNCE takes over an unlocked STALE entry of another node (R38). -/
def Obligations.AnnounceTakesOverAStaleEntry : Prop :=
  ∀ (s : State) (c : Fin 6) (m node : Byte) (payload tag : List Byte) (cls vis : Byte) (lease : Half) (i : SlotNo)
    (e : Entry) (grace : Nat) (v : Visibility),
    servesRequest c m 0x01 payload s → parseRequest 0x01 payload = some (.announce tag cls vis lease) →
    1 ≤ tag.length → tag.length ≤ 16 → vis.toNat ≤ 1 → visibilityOf vis = some v → lease.toNat ≠ 0 →
    s.entryOf i = some e → e.life = .stale grace → e.tag = tag → e.origin = .trunk node → node ≠ m → i ∉ s.dir.free →
    (∀ j d, s.entryOf j = some d → d.countsForTag = true → d.tag = tag → j = i) →
    let r := lease.toNat
    let g := if r < s.params.leaseMin then s.params.leaseMin else if s.params.leaseMax < r then s.params.leaseMax else r
    let reply := fun (code : ResultCode) (h : Handle) (granted : Nat) =>
      ({ kind := 0x81, code := code, body := halfBytes h ++ halfBytes (BitVec.ofNat 16 granted) } : Reply)
    ∃ t, exec .announce s = .next t
      ∧ (if e.lock ≠ none then repliesWith c (reply .duplicate nullHandle 0) [] s t
        else if e.watch = true ∧ s.dir.free = [] then repliesWith c (reply .full nullHandle 0) [] s t
        else
          ∀ k rest, (if e.watch then s.dir.free else s.dir.free ++ [i]) = k :: rest →
            let h := mkHandle (nextGeneration (s.slot k).generation) k
            buildsReply c (reply .ok h g) s t ∧ keepsBut [.dir, .trunk, .arb, .notify, .doze] s t
            ∧ t.dir.free = rest ∧ keepsSlotsBut [i, k] s t
            ∧ (k ≠ i → t.slot i = { s.slot i with
                entry := if e.watch then some ({ e with lock := none, life := .spent }.marked .retired) else none })
            ∧ (t.slot k).generation = nextGeneration (s.slot k).generation
            ∧ (let fresh : Entry := {
                origin := .trunk m, tag := tag, cls := cls, reach := some m, visibility := v,
                watch := s.params.trunkWatch, wake := s.params.trunkWake, leaseLength := some g,
                life := .live (some g), lock := none, attrs := [], marks := Marks.none_ }
              t.entryOf k = some (fresh.marked .created))
            ∧ (let retired := e.watch && !e.marks.has .retired
              let created := s.params.trunkWatch
              let byOld := retired && e.wake && s.captures
              let byNew := created && s.params.trunkWake && s.captures
              setsFlags ((if retired || created then [.mark] else []) ++ (if byOld || byNew then [.wake] else [])) s t
                ∧ t.doze = (if byOld then { s.doze with record := some (.mark (s.handleOf i)) }
                  else if byNew then { s.doze with record := some (.mark h) }
                  else s.doze)))

/-- REFRESH by the owner restarts the lease and revives a STALE entry, whatever its lock (R44). -/
def Obligations.RefreshRestartsTheLease : Prop :=
  ∀ (s : State) (c : Fin 6) (m : Byte) (h : Handle), servesRequest c m 0x02 (halfBytes h) s →
    let reply := fun (code : ResultCode) (remaining : Nat) =>
      ({ kind := 0x82, code := code, body := halfBytes (BitVec.ofNat 16 remaining) } : Reply)
    ∃ t, exec .refresh s = .next t
      ∧ match s.lookup h with
        | none => repliesWith c (reply .unknown 0) [] s t
        | some (i, e) =>
          if e.life = .spent ∨ e.visibility = .closed then repliesWith c (reply .unknown 0) [] s t
          else if e.origin ≠ .trunk m then repliesWith c (reply .notOwner 0) [] s t
          else
            let d := { e with life := .live e.leaseLength }
            buildsReply c (reply .ok (e.leaseLength.getD 0)) s t ∧ keepsBut [.dir, .trunk, .arb, .notify, .doze] s t
            ∧ rewritesEntry i (if e.life.isStale then d.marked .revived else d) s t
            ∧ (if e.life.isStale then marksAndWakes [] .revived d (s.handleOf i) s t
              else setsFlags [] s t ∧ t.doze = s.doze)

/-- WITHDRAW by the owner retires its entry: SPENT under WATCH, else FREE (R47). -/
def Obligations.WithdrawRetiresTheOwnEntry : Prop :=
  ∀ (s : State) (c : Fin 6) (m : Byte) (h : Handle), servesRequest c m 0x03 (halfBytes h) s →
    let reply := fun (code : ResultCode) => ({ kind := 0x83, code := code, body := [] } : Reply)
    ∃ t, exec .withdraw s = .next t
      ∧ match s.lookup h with
        | none => repliesWith c (reply .unknown) [] s t
        | some (i, e) =>
          if e.visibility = .closed then repliesWith c (reply .unknown) [] s t
          else if e.origin ≠ .trunk m then repliesWith c (reply .notOwner) [] s t
          else if e.life = .spent then repliesWith c (reply .inactive) [] s t
          else if barsNode m e = true then repliesWith c (reply .locked) [] s t
          else
            let d := { e with lock := none, life := .spent }
            buildsReply c (reply .ok) s t ∧ keepsBut [.dir, .trunk, .arb, .notify, .doze] s t
            ∧ (if e.watch then
                rewritesEntry i (d.marked .retired) s t ∧ marksAndWakes [] .retired d (s.handleOf i) s t
              else freesSlot i s t ∧ setsFlags [] s t ∧ t.doze = s.doze)

/-- SEEK claims the lowest IDLE search context and makes its trunk context SERVING (R130). -/
def Obligations.SeekClaimsASearchContext : Prop :=
  ∀ (s : State) (c : Fin 6) (m : Byte) (payload : List Byte) (start options cls : Byte) (pattern : List Byte) (mask : Half),
    servesRequest c m 0x04 payload s → parseRequest 0x04 payload = some (.seek start options cls pattern mask) →
    let reply := fun (code : ResultCode) => ({ kind := 0x84, code := code, body := [0x00, 0x00, 0x00] } : Reply)
    let fields := 1 ≤ pattern.length ∧ pattern.length ≤ 16
    ∃ t, exec .seek s = .next t
      ∧ (¬fields → repliesWith c (reply .badParam) [] s t)
      ∧ (fields → (∀ k, s.searchContext k ≠ .idle) → repliesWith c (reply .busy) [] s t)
      ∧ (fields → ∀ k, s.searchContext k = .idle → (∀ j, j < k → s.searchContext j ≠ .idle) →
          takesRequest c s t ∧ keepsBut [.search, .trunk, .arb] s t
          ∧ t.context c = { s.context c with state := .serving, linked := some k }
          ∧ t.trunk.ready = s.trunk.ready
          ∧ (∀ j, j ≠ k → t.searchContext j = s.searchContext j)
          ∧ t.searchContext k = .running
              { owner := .trunk c, burst := false, pattern := pattern, mask := mask, exact := options.getLsbD 1
                classFilter := if options.getLsbD 4 then some cls else none, includeStale := false
                start := start.toNat, cursor := start.toNat, limit := 4, results := [] })

/-- FETCH answers the description of a LIVE entry that may be told, and changes nothing (R50). -/
def Obligations.FetchTellsADescription : Prop :=
  ∀ (s : State) (c : Fin 6) (m : Byte) (h : Handle), servesRequest c m 0x05 (halfBytes h) s →
    let refused := fun (code : ResultCode) =>
      ({ kind := 0x85, code := code, body := [0x00, 0x00, 0x00, 0x00, 0x00] } : Reply)
    ∃ t, exec .fetch s = .next t
      ∧ match s.lookup h with
        | none => repliesWith c (refused .unknown) [] s t
        | some (_, e) =>
          if e.visibility = .closed then repliesWith c (refused .unknown) [] s t
          else if e.visibility = .guarded ∧ e.origin ≠ .trunk m then repliesWith c (refused .denied) [] s t
          else if e.life.isLive = false then repliesWith c (refused .inactive) [] s t
          else
            let r : Reply := { kind := 0x85, code := .ok, body :=
              [e.cls, e.reach.getD 0x00, e.visibility.toByte, BitVec.ofNat 8 e.attrs.length]
                ++ e.attrs.flatMap (fun a => [a.id, hiByte a.value, loByte a.value])
                ++ BitVec.ofNat 8 e.tag.length :: e.tag }
            repliesWith c r [] s t ∧ (e.attrs.length ≤ 6 → e.tag.length ≤ 16 → r.payload.length ≤ 40)

/-- POST_ATTR and the trunk DROP_ATTR judge in the order of R41, edit the list and mark CHANGED (2.6 Put and Drop
Attribute). -/
def Obligations.NodeAttributeEdits : Prop :=
  ∀ (s : State) (c : Fin 6) (m : Byte) (h : Handle) (id : Byte) (value : Half),
    let judged := fun (t : State) (kind : Byte) (refusal : ResultCode) (barred : Entry → Prop)
        (edit : List Attr → List Attr → Prop) =>
      let reply := fun (code : ResultCode) => ({ kind := kind, code := code, body := [] } : Reply)
      if id.toNat = 0 ∨ id.toNat = 255 then repliesWith c (reply .badParam) [] s t
      else
        match s.lookup h with
        | none => repliesWith c (reply .unknown) [] s t
        | some (i, e) =>
          if e.visibility = .closed then repliesWith c (reply .unknown) [] s t
          else if e.origin ≠ .trunk m then repliesWith c (reply .notOwner) [] s t
          else if e.life.isLive = false then repliesWith c (reply .inactive) [] s t
          else if barsNode m e = true then repliesWith c (reply .locked) [] s t
          else
            (barred e → repliesWith c (reply refusal) [] s t)
            ∧ (¬barred e → buildsReply c (reply .ok) s t ∧ keepsBut [.dir, .trunk, .arb, .notify, .doze] s t
              ∧ ∃ l, edit e.attrs l ∧ rewritesEntry i ({ e with attrs := l }.marked .changed) s t
                ∧ marksAndWakes [] .changed e (s.handleOf i) s t)
    (servesRequest c m 0x06 (halfBytes h ++ id :: halfBytes value) s →
      ∃ t, exec .postAttr s = .next t ∧ judged t 0x86 .attrFull
        (fun e => (∀ a ∈ e.attrs, a.id ≠ id) ∧ 6 ≤ e.attrs.length) (isPut { id := id, value := value }))
    ∧ (servesRequest c m 0x07 (halfBytes h ++ [id]) s →
      ∃ t, exec .trunkDropAttr s = .next t ∧ judged t 0x87 .noAttr (fun e => ∀ a ∈ e.attrs, a.id ≠ id) (isDrop id))

/-- CLAIM sets or renews a node's lock on a LIVE entry and names another holder (R74). -/
def Obligations.ClaimSetsOrRenewsTheNodesLock : Prop :=
  ∀ (s : State) (c : Fin 6) (m : Byte) (h : Handle) (hold : Byte), servesRequest c m 0x08 (halfBytes h ++ [hold]) s →
    let reply := fun (code : ResultCode) (b : Byte) => ({ kind := 0x88, code := code, body := [b] } : Reply)
    let g := min hold.toNat s.params.lockMax
    ∃ t, exec .claim s = .next t
      ∧ if hold = 0x00 then repliesWith c (reply .badParam 0x00) [] s t
        else
          match s.lookup h with
          | none => repliesWith c (reply .unknown 0x00) [] s t
          | some (i, e) =>
            if e.visibility = .closed then repliesWith c (reply .unknown 0x00) [] s t
            else if e.visibility = .guarded ∧ e.origin ≠ .trunk m then repliesWith c (reply .denied 0x00) [] s t
            else if e.life.isLive = false then repliesWith c (reply .inactive 0x00) [] s t
            else
              (∀ k, e.lock = some k → k.holder ≠ .node m → repliesWith c (reply .locked k.holder.toByte) [] s t)
              ∧ ((∀ k, e.lock = some k → k.holder = .node m) →
                  repliesWith c (reply .ok (BitVec.ofNat 8 g)) [.dir] s t
                  ∧ rewritesEntry i { e with lock := some { holder := .node m, lapse := g } } s t)

/-- YIELD releases the node's own lock and no other (R78). -/
def Obligations.YieldReleasesTheNodesLock : Prop :=
  ∀ (s : State) (c : Fin 6) (m : Byte) (h : Handle), servesRequest c m 0x09 (halfBytes h) s →
    let reply := fun (code : ResultCode) => ({ kind := 0x89, code := code, body := [] } : Reply)
    ∃ t, exec .yield s = .next t
      ∧ match s.lookup h with
        | none => repliesWith c (reply .unknown) [] s t
        | some (i, e) =>
          if e.visibility = .closed then repliesWith c (reply .unknown) [] s t
          else if e.life = .spent then repliesWith c (reply .inactive) [] s t
          else if e.lock.any (fun k => decide (k.holder = .node m)) = true then
            repliesWith c (reply .ok) [.dir] s t ∧ rewritesEntry i { e with lock := none } s t
          else repliesWith c (reply .notHolder) [] s t

/-- A CODE that names no command and a request of unknown kind or wrong length are answered BAD_PARAM (8.3 Commands
and Their Fields, 7.3 Serving a Request). -/
def Obligations.UnnamedCodeAndMalformedRequestAreBadParam : Prop :=
  (∀ (s : State) (n : Fin 4) (code : Byte), servesCommand n code s → code = 0x00 ∨ 0x12 < code.toNat →
      ∃ t, exec .unknownCommand s = .next t ∧ completesWith n .badParam [] [] s t)
    ∧ (∀ (s : State) (c : Fin 6) (m kind : Byte) (payload : List Byte),
      servesRequest c m kind payload s → parseRequest kind payload = none →
      ∃ t, exec .reject s = .next t ∧ repliesWith c { kind := 0xFF, code := .badParam, body := [kind] } [] s t)
    ∧ ∀ (kind : Byte) (payload : List Byte), (parseRequest kind payload).isSome = true ↔
        (kind = 0x01 ∧ payload ≠ [] ∧ payload.length = 5 + (payload.getD 0 0).toNat)
        ∨ (kind ∈ [0x02#8, 0x03#8, 0x05#8, 0x09#8] ∧ payload.length = 2)
        ∨ (kind = 0x04 ∧ 4 ≤ payload.length ∧ payload.length = 6 + (payload.getD 3 0).toNat)
        ∨ (kind = 0x06 ∧ payload.length = 5)
        ∨ (kind ∈ [0x07#8, 0x08#8] ∧ payload.length = 3)

/-- A request written out by its kind and payload is parsed back, every field as it was (7.3 Serving a Request, 12.2
Trunk Frames). -/
def Obligations.WrittenRequestIsReadBack : Prop :=
  ∀ r : Request,
    (∀ tag cls vis lease, r = .announce tag cls vis lease → tag.length ≤ 255) →
    (∀ start options cls pattern mask, r = .seek start options cls pattern mask → pattern.length ≤ 255) →
    parseRequest r.kind r.payload = some r

/-- START, RESTART and STOP move the link, latch DIR_ADDRESS and end frames, whoever sends them (6.1 Lines, Conditions
and Bytes, 6.2 Link States and the Stuck-Line Fault, 6.4 Receiving a Frame, 6.5 Sending a Reply). It rests on choices
of the model: log 2, log 12. -/
def Obligations.LineConditionsBeginAndEndFrames : Prop :=
  ∀ s : State, s.settled = true →
    let begun := { s.link with
      state := .busy, latchedDir := some s.params.dirAddress, afterLoad := s.loadEnded, receiver := .destination
      crc := 0x00, ackLow := false }
    let claimedBy := fun (c : Fin 6) => match s.link.receiver with
      | .frame d _ => decide (d = c)
      | .waiting | .destination | .ignoring => false
    let sentBy := fun (c : Fin 6) => match s.link.transmitter with
      | some x => decide (x.context = c)
      | none => false
    let left := fun (c : Fin 6) => if sentBy c then TrunkContext.idleWith (s.context c).ticket else s.context c
    let dropped := fun (t : State) =>
      (∀ c, t.context c = if claimedBy c then TrunkContext.idleWith (s.context c).ticket else left c)
      ∧ t.trunk.received = s.trunk.received ∧ t.trunk.ready = s.trunk.ready
    (s.resetLow = false → s.link.state = .idle →
      ∃ t, exec .startCondition s = .next t ∧ keepsBut [.link] s t ∧ t.link = begun)
    ∧ (s.link.state ≠ .idle → exec .startCondition s = .next s)
    ∧ (s.link.state = .busy →
      (∃ t, exec .restartCondition s = .next t ∧ keepsBut [.link, .trunk] s t
        ∧ t.link = { begun with transmitter := none } ∧ dropped t)
      ∧ (let ended := { s.link with state := .idle, receiver := .waiting, ackLow := false, transmitter := none }
        ((∀ c, s.link.receiver ≠ .frame c .complete) →
          ∃ t, exec .stopCondition s = .next t ∧ keepsBut [.link, .trunk] s t ∧ t.link = ended ∧ dropped t)
        ∧ ∀ c, s.link.receiver = .frame c .complete →
          ∃ t, exec .stopCondition s = .next t ∧ keepsBut [.link, .trunk] s t ∧ t.link = ended
            ∧ t.context c = { left c with state := .received } ∧ (∀ d, d ≠ c → t.context d = left d)
            ∧ t.trunk.received = s.trunk.received ++ [c] ∧ t.trunk.ready = s.trunk.ready))
    ∧ (s.link.state ≠ .busy → exec .restartCondition s = .next s ∧ exec .stopCondition s = .next s)

/-- RECEIVE_BYTE claims the lowest IDLE context at the destination and judges every later byte (6.4 Receiving a Frame,
6.3 Frames). It rests on choices of the model: log 2, log 12. -/
def Obligations.ReceivedBytesAreJudged : Prop :=
  ∀ (s : State) (v : Byte), s.settled = true →
    (s.link.state ≠ .busy ∨ s.link.transmitter ≠ none → exec (.receiveByte v) s = .next s)
    ∧ (s.link.state = .busy → s.link.transmitter = none →
    let takes := fun (c : Fin 6) (part : FramePart) (x : TrunkContext) =>
      ∃ t, exec (.receiveByte v) s = .next t ∧ keepsBut [.link, .trunk] s t
        ∧ t.link = { s.link with receiver := .frame c part, crc := crcByte s.link.crc v, ackLow := true }
        ∧ t.context c = x ∧ (∀ d, d ≠ c → t.context d = s.context d)
        ∧ t.trunk.received = s.trunk.received ∧ t.trunk.ready = s.trunk.ready
    let ignored := { s.link with receiver := .ignoring, ackLow := false }
    (s.link.receiver = .destination →
      (∀ c, s.link.latchedDir = some v → s.link.afterLoad = true → (s.context c).state = .idle →
        (∀ d, d < c → (s.context d).state ≠ .idle) →
        takes c .source { TrunkContext.idleWith ((s.context c).ticket + 1) with state := .receiving })
      ∧ (s.link.latchedDir ≠ some v ∨ s.link.afterLoad = false ∨ (∀ c, (s.context c).state ≠ .idle) →
        ∃ t, exec (.receiveByte v) s = .next t ∧ keepsBut [.link] s t ∧ t.link = ignored))
    ∧ (∀ c part, s.link.receiver = .frame c part →
      let x := s.context c
      let left := fun (k : Nat) => if k = 0 then FramePart.check else FramePart.payload k
      let refused := ∃ t, exec (.receiveByte v) s = .next t ∧ keepsBut [.link, .trunk] s t ∧ t.link = ignored
        ∧ t.context c = TrunkContext.idleWith x.ticket ∧ (∀ d, d ≠ c → t.context d = s.context d)
        ∧ t.trunk.received = s.trunk.received ∧ t.trunk.ready = s.trunk.ready
      match part with
      | .source => if 1 ≤ v.toNat ∧ v.toNat ≤ 111 then takes c .kind { x with requester := some v } else refused
      | .kind => takes c .tag { x with kind := some v }
      | .tag => takes c .length { x with tag := some v }
      | .length => if v.toNat ≤ 40 then takes c (left v.toNat) { x with length := some v.toNat } else refused
      | .payload k => takes c (left (k - 1)) { x with payload := x.payload ++ [v] }
      | .check => if v = s.link.crc then takes c .complete x else refused
      | .complete => refused)
    ∧ (s.link.receiver = .waiting ∨ s.link.receiver = .ignoring →
      ∃ t, exec (.receiveByte v) s = .next t ∧ keepsBut [.link] s t ∧ t.link = { s.link with ackLow := false }))

/-- A whole request frame from START to STOP leaves its request in one RECEIVED context (6.3 Frames, 6.4 Receiving a
Frame, 6.7 Worked Sequence: Receiving a Request). -/
def Obligations.WholeFrameIsReceived : Prop :=
  ∀ (s : State) (c : Fin 6) (source kind tag : Byte) (payload : List Byte),
    s.settled = true → s.loadEnded = true → s.link.state = .idle → s.link.transmitter = none →
    (s.context c).state = .idle → (∀ d, d < c → (s.context d).state ≠ .idle) →
    1 ≤ source.toNat → source.toNat ≤ 111 → payload.length ≤ 40 →
    ∃ t, runAll (.startCondition :: (requestFrame s.params.dirAddress source kind tag payload).map Instr.receiveByte
        ++ [.stopCondition]) s = .next t
      ∧ keepsBut [.link, .trunk] s t ∧ t.link.state = .idle ∧ t.link.receiver = .waiting
      ∧ t.context c =
          { TrunkContext.idleWith ((s.context c).ticket + 1) with
            state := .received, requester := some source, kind := some kind, tag := some tag
            length := some payload.length, payload := payload }
      ∧ (∀ d, d ≠ c → t.context d = s.context d)
      ∧ t.trunk.received = s.trunk.received ++ [c] ∧ t.trunk.ready = s.trunk.ready

/-- REPLY_SEND_START, SEND_BYTE_ACK and ARBITRATION_LOST send, drop or put back a reply (6.5 Sending a Reply, 6.3
Frames). It rests on choices of the model: log 11, log 13. -/
def Obligations.RepliesAreSentByteByByte : Prop :=
  (∀ (s : State) (c : Fin 6) (rest : List (Fin 6)), s.settled = true → s.resetLow = false → s.link.state = .idle →
      s.link.transmitter = none → s.trunk.ready = c :: rest →
      ∃ t, exec .replySendStart s = .next t ∧ keepsBut [.link, .trunk] s t
        ∧ t.context c = { s.context c with state := .sending } ∧ (∀ d, d ≠ c → t.context d = s.context d)
        ∧ t.trunk.ready = rest ∧ t.trunk.received = s.trunk.received
        ∧ t.link = { s.link with
            state := .busy, latchedDir := some s.params.dirAddress, latchedSpeed := some s.params.linkSpeed
            afterLoad := s.loadEnded, receiver := .destination, crc := 0x00, ackLow := false
            transmitter := some { context := c, sent := 0 } })
    ∧ (∀ (s : State) (c : Fin 6) (sent : Nat) (source node tag : Byte) (r : Reply), s.settled = true →
      s.link.transmitter = some { context := c, sent := sent } → s.link.latchedDir = some source →
      (s.context c).requester = some node → (s.context c).tag = some tag → (s.context c).reply = some r →
      let frame := replyFrame node source tag r
      let ended := fun (t : State) =>
        t.link = { s.link with state := .idle, receiver := .waiting, ackLow := false, transmitter := none }
        ∧ t.context c = TrunkContext.idleWith (s.context c).ticket ∧ (∀ d, d ≠ c → t.context d = s.context d)
        ∧ t.trunk.ready = s.trunk.ready ∧ t.trunk.received = s.trunk.received
      (∃ t, exec (.sendByteAck false) s = .next t ∧ keepsBut [.link, .trunk, .notify] s t ∧ ended t
        ∧ t.notify = { s.notify with flags := s.notify.flags ||| 0x10#8, cause := s.notify.cause ||| 0x02#8 })
      ∧ (frame.length ≤ sent + 1 →
        ∃ t, exec (.sendByteAck true) s = .next t ∧ keepsBut [.link, .trunk] s t ∧ ended t)
      ∧ (sent + 1 < frame.length → ∃ t, exec (.sendByteAck true) s = .next t ∧ keepsBut [.link] s t
        ∧ t.link = { s.link with receiver := .ignoring, transmitter := some { context := c, sent := sent + 1 } })
      ∧ ∀ (h : sent < frame.length) (bit : Fin 8),
        (frame[sent].getLsbD bit.val = true → ∃ t, exec (.arbitrationLost bit) s = .next t ∧ keepsBut [.link, .trunk] s t
          ∧ t.context c = { s.context c with state := .replyReady } ∧ (∀ d, d ≠ c → t.context d = s.context d)
          ∧ t.trunk.ready = c :: s.trunk.ready ∧ t.trunk.received = s.trunk.received
          ∧ t.link = { s.link with transmitter := none })
        ∧ (frame[sent].getLsbD bit.val = false → exec (.arbitrationLost bit) s = .next s))
    ∧ ∀ (node source tag : Byte) (r : Reply),
      let bytes := [node, source, r.kind, tag, BitVec.ofNat 8 r.payload.length] ++ r.payload
      replyFrame node source tag r = bytes ++ [crc bytes] ∧ crc (bytes ++ [crc bytes]) = 0x00
      ∧ crc [] = 0x00
      ∧ ∀ (l : List Byte) (b : Byte), crc (l ++ [b])
          = Nat.repeat (fun x : Byte => if x.getLsbD 7 then (x <<< 1) ^^^ 0x07#8 else x <<< 1) 8 (crc l ^^^ b)

/-- A low run of 25 puts the link into FAULT and clears the trunk side; free lines release it (6.2 Link States and the
Stuck-Line Fault, 7.7 Contexts at a Trunk Fault and After Reset, 5.7 Contexts at Each Reset). It rests on choices of
the model: log 3. -/
def Obligations.TrunkFaultAndItsRelease : Prop :=
  ∀ s : State,
    (s.link.state ≠ .fault → 25 ≤ s.link.tkcLow ∨ 25 ≤ s.link.tkdLow →
      ∃ t, exec .trunkFault s = .next t ∧ keepsBut [.link, .trunk, .search, .notify] s t
        ∧ t.link.state = .fault ∧ t.link.receiver = .waiting ∧ t.link.transmitter = none
        ∧ t.link.latchedDir = none ∧ t.link.latchedSpeed = none ∧ t.link.ackLow = false
        ∧ (∀ c, t.context c = TrunkContext.idleWith (s.context c).ticket)
        ∧ t.trunk.received = [] ∧ t.trunk.ready = []
        ∧ (∀ k, t.searchContext k =
            if 0x80 ≤ (s.searchContext k).ownerByte.toNat ∧ (s.searchContext k).ownerByte ≠ 0xFF then .idle
            else s.searchContext k)
        ∧ t.notify = { s.notify with flags := s.notify.flags ||| 0x10#8, cause := s.notify.cause ||| 0x01#8 })
    ∧ (s.link.state = .fault ∨ (s.link.tkcLow < 25 ∧ s.link.tkdLow < 25) → exec .trunkFault s = .next s)
    ∧ (s.link.state = .fault → s.link.bothHigh = true →
      ∃ t, exec .faultRelease s = .next t ∧ keepsBut [.link] s t
        ∧ t.link = { s.link with state := .idle, tkcLow := 0, tkdLow := 0, bothHigh := false })
    ∧ (s.link.state ≠ .fault ∨ s.link.bothHigh = false → exec .faultRelease s = .next s)

/-- A search matches an entry exactly by state, visibility, tag length, tag bytes and class (R89). -/
def Obligations.MatchingFollowsItsFiveConditions : Prop :=
  ∀ (s : State) (r : Search) (i : SlotNo), s.slotFits r i = true ↔ ∃ e, s.entryOf i = some e
    ∧ ((∃ l, e.life = .live l) ∨ (r.includeStale = true ∧ ∃ g, e.life = .stale g))
    ∧ (r.owner ≠ .loc → e.visibility ≠ .closed)
    ∧ (if r.exact then e.tag.length = r.pattern.length else r.pattern.length ≤ e.tag.length)
    ∧ (∀ i, i < r.pattern.length → r.mask.getLsbD i = true → e.tag[i]? = r.pattern[i]?)
    ∧ (∀ k, r.classFilter = some k → e.cls = k)

/-- SEARCH_STEP examines the next slots in order, appends matches and ends the search where its rule says (R94, R95,
R96, R97). -/
def Obligations.SearchStepWalksTheSlots : Prop :=
  ∀ (s : State) (k : Fin 4) (r : Search), s.settled = true → s.nextGrant = some .search →
    s.nextSearch = some k → s.searchContext k = .running r → r.cursor < 256 → r.results.length < r.limit →
    let found := fun (d : Nat) => (allSlots.filter (fun i =>
      decide (r.cursor ≤ i.val) && decide (i.val < d) && (s.entryOf i).any (fun e => r.fits e))).map s.handleOf
    let after := fun (d : Nat) => { r with cursor := d, results := r.results ++ found d }
    ∃ t d, exec .searchStep s = .next t ∧ t.arb = { lastGranted := .search, lastServed := k }
      ∧ r.cursor < d ∧ d ≤ 256 ∧ (r.burst = false → d ≤ r.cursor + 16)
      ∧ (∀ m, m < d → (after m).results.length < r.limit)
      ∧ (∀ j, j ≠ k → t.searchContext j = s.searchContext j)
      ∧ (if (after d).results.length = r.limit ∨ d = 256 then
          (r.owner = .loc → keepsBut [.arb, .search, .notify] s t ∧ setsFlags [.srch] s t
            ∧ t.searchContext k = .done (if (after d).results.length = r.limit then .filled else .complete) (after d))
          ∧ (r.owner ≠ .loc → t.searchContext k = .idle ∧ t.flag .srch = s.flag .srch
            ∧ keepsBut [.arb, .search, .notify, .doze, .trunk] s t)
        else
          r.burst = false ∧ d = r.cursor + 16 ∧ keepsBut [.arb, .search] s t ∧ t.searchContext k = .running (after d))

/-- SEEK end re-validates the results and replies OK, forwards to the host or replies DEFERRED (R132, R133). -/
def Obligations.SeekEndDecidesTheReply : Prop :=
  ∀ (s : State) (k : Fin 4) (c : Fin 6) (node : Byte) (r q : Search) (code : EndCode), s.settled = true →
    s.nextGrant = some .search → s.nextSearch = some k → s.searchContext k = .running r → r.owner = .trunk c →
    walk s (if r.burst then 256 else 16) r = (q, some code) → (s.context c).requester = some node →
    let x := s.context c
    let items := q.results.filterMap (fun h => match s.lookup h with
      | some (_, e) =>
        if e.life.isLive = true ∧ e.visibility ≠ .closed then
          some ({ handle := h, reach := e.reach, cls := e.cls, visibility := e.visibility
                  guarded := decide (e.visibility = .guarded) && decide (e.origin ≠ .trunk node) } : Item)
        else none
      | none => none)
    let wakes := items.find? (fun y => y.guarded && (match s.lookup y.handle with | some (_, e) => e.wake | none => false))
    let replied := fun (t : State) (reply : Reply) =>
      t.context c = { x with state := .replyReady, linked := none, results := items, nextCursor := some q.cursor
                             deadline := none, reply := some reply }
      ∧ t.trunk.ready = s.trunk.ready ++ [c]
    let seekReply := fun (code : ResultCode) (next : Nat) (carried : List Item) =>
      ({ kind := 0x84, code := code, body := halfBytes (BitVec.ofNat 16 next) ++ BitVec.ofNat 8 carried.length
          :: carried.flatMap (fun y => [hiByte y.handle, loByte y.handle, y.reach.getD 0x00, y.cls]) } : Reply)
    ∃ t, exec .searchStep s = .next t ∧ keepsBut [.arb, .search, .trunk, .notify, .doze] s t
      ∧ t.searchContext k = .idle ∧ (∀ j, j ≠ k → t.searchContext j = s.searchContext j)
      ∧ t.trunk.received = s.trunk.received ∧ (∀ d, d ≠ c → t.context d = s.context d)
      ∧ (items.all (fun y => !y.guarded) = true →
          replied t (seekReply .ok q.cursor items) ∧ setsFlags [] s t ∧ t.doze = s.doze)
      ∧ (items.any (fun y => y.guarded) = true → s.doze.host = .awake →
          t.context c = { x with state := .awaitingHost, linked := none, results := items, nextCursor := some q.cursor
                                 deadline := some s.params.fwdDeadline }
          ∧ t.trunk.ready = s.trunk.ready ∧ setsFlags [.fwd] s t ∧ t.doze = s.doze)
      ∧ (items.any (fun y => y.guarded) = true → s.doze.host = .doze →
          replied t (seekReply .deferred q.cursor (items.filter (fun y => !y.guarded)))
          ∧ let capture := if s.captures then wakes else none
            setsFlags (if capture.isSome then [.wake] else []) s t
            ∧ t.doze = (match capture with
              | some y => { s.doze with record := some (.seek y.handle node x.ticket) }
              | none => s.doze))

/-- The state after reset satisfies every invariant (11.1 Full Reset, 1.15 The Directory After Each Reset). -/
def Obligations.ResetStateHasEveryInvariant : Prop :=
  wakeFlagInv State.reset ∧ dozeInv State.reset ∧ postOrderInv State.reset ∧ pinsInv State.reset ∧ rangesInv State.reset
    ∧ directoryInv State.reset ∧ searchInv State.reset ∧ trunkInv State.reset

/-- Every step keeps: WAKE set exactly with a record, no waiting seek in DOZE, an exact post-order queue, no
transaction at a closed port (10.4 The Wake Record, 10.1 The Host State, 8.2 Command Slots, 8.1 The Serial Host Port).
-/
def Obligations.EveryStepKeepsTheHostSideSound : Prop :=
  ∀ s : State, wakeFlagInv s → dozeInv s → postOrderInv s → pinsInv s →
    (∃ t, step s = .next t ∧ wakeFlagInv t ∧ dozeInv t ∧ postOrderInv t ∧ pinsInv t)
    ∧ ∀ (b : Bool), ∀ t ∈ [hselFall s, hselRise s, hsckRise b s, hsckFall s],
        wakeFlagInv t ∧ dozeInv t ∧ postOrderInv t ∧ pinsInv t

/-- Every step keeps the parameters, counters, low runs, deadlines and TRUNK CAUSE in their ranges (3.1 The Time Base,
8.4 Parameters, 6.2 Link States and the Stuck-Line Fault, 7.1 Trunk Contexts, 12.1 Encoded Values). -/
def Obligations.EveryStepKeepsTheRanges : Prop :=
  ∀ s : State, rangesInv s → ∃ t, step s = .next t ∧ rangesInv t

/-- Every step keeps the free list exact, generations nonzero in use, tags distinct and every entry sound (1.3
Generations and Handles, 1.5 Tags, 1.8 Leases, 1.9 Locks, 1.10 Attributes, 1.11 Marks, 1.13 The Free List). -/
def Obligations.EveryStepKeepsTheDirectoryLaw : Prop :=
  ∀ s : State, directoryInv s → ∃ t, step s = .next t ∧ directoryInv t

/-- Every step keeps result lists ascending, within the limit, between start slot and cursor (5.1 The Four Contexts,
5.5 A Stepped Search Overtaken). -/
def Obligations.EveryStepKeepsTheSearchesSound : Prop :=
  ∀ s : State, searchInv s → ∃ t, step s = .next t ∧ searchInv t

/-- Every step keeps the queues exact, SERVING paired with its search, receiver and transmitter with their contexts
(7.1 Trunk Contexts, 7.2 The Received and Ready Queues, 5.1 The Four Contexts, 6.2 Link States and the Stuck-Line
Fault). -/
def Obligations.EveryStepKeepsTheTrunkLaw : Prop :=
  ∀ s : State, trunkInv s → ∃ t, step s = .next t ∧ trunkInv t
end

