-- ==== Sys2Proof/Laws/State.lean ====
section
/-! SUPPORT. Every named update of State, field by field: true by unfolding, so that no proof unfolds a record update. -/

namespace Sys2Proof.Laws

open Sys2Proof.Machine

variable (s : State)


/-! setDir -/

@[simp] theorem setDir_pending (d : Directory) : (s.setDir d).pending = s.pending := rfl
@[simp] theorem setDir_dir (d : Directory) : (s.setDir d).dir = d := rfl
@[simp] theorem setDir_arb (d : Directory) : (s.setDir d).arb = s.arb := rfl
@[simp] theorem setDir_search (d : Directory) : (s.setDir d).search = s.search := rfl
@[simp] theorem setDir_time (d : Directory) : (s.setDir d).time = s.time := rfl
@[simp] theorem setDir_link (d : Directory) : (s.setDir d).link = s.link := rfl
@[simp] theorem setDir_trunk (d : Directory) : (s.setDir d).trunk = s.trunk := rfl
@[simp] theorem setDir_port (d : Directory) : (s.setDir d).port = s.port := rfl
@[simp] theorem setDir_notify (d : Directory) : (s.setDir d).notify = s.notify := rfl
@[simp] theorem setDir_doze (d : Directory) : (s.setDir d).doze = s.doze := rfl
@[simp] theorem setDir_loader (d : Directory) : (s.setDir d).loader = s.loader := rfl
@[simp] theorem setDir_params (d : Directory) : (s.setDir d).params = s.params := rfl

/-! setArb -/

@[simp] theorem setArb_pending (a : Arbiter) : (s.setArb a).pending = s.pending := rfl
@[simp] theorem setArb_dir (a : Arbiter) : (s.setArb a).dir = s.dir := rfl
@[simp] theorem setArb_arb (a : Arbiter) : (s.setArb a).arb = a := rfl
@[simp] theorem setArb_search (a : Arbiter) : (s.setArb a).search = s.search := rfl
@[simp] theorem setArb_time (a : Arbiter) : (s.setArb a).time = s.time := rfl
@[simp] theorem setArb_link (a : Arbiter) : (s.setArb a).link = s.link := rfl
@[simp] theorem setArb_trunk (a : Arbiter) : (s.setArb a).trunk = s.trunk := rfl
@[simp] theorem setArb_port (a : Arbiter) : (s.setArb a).port = s.port := rfl
@[simp] theorem setArb_notify (a : Arbiter) : (s.setArb a).notify = s.notify := rfl
@[simp] theorem setArb_doze (a : Arbiter) : (s.setArb a).doze = s.doze := rfl
@[simp] theorem setArb_loader (a : Arbiter) : (s.setArb a).loader = s.loader := rfl
@[simp] theorem setArb_params (a : Arbiter) : (s.setArb a).params = s.params := rfl

/-! setTime -/

@[simp] theorem setTime_pending (t : TimeBase) : (s.setTime t).pending = s.pending := rfl
@[simp] theorem setTime_dir (t : TimeBase) : (s.setTime t).dir = s.dir := rfl
@[simp] theorem setTime_arb (t : TimeBase) : (s.setTime t).arb = s.arb := rfl
@[simp] theorem setTime_search (t : TimeBase) : (s.setTime t).search = s.search := rfl
@[simp] theorem setTime_time (t : TimeBase) : (s.setTime t).time = t := rfl
@[simp] theorem setTime_link (t : TimeBase) : (s.setTime t).link = s.link := rfl
@[simp] theorem setTime_trunk (t : TimeBase) : (s.setTime t).trunk = s.trunk := rfl
@[simp] theorem setTime_port (t : TimeBase) : (s.setTime t).port = s.port := rfl
@[simp] theorem setTime_notify (t : TimeBase) : (s.setTime t).notify = s.notify := rfl
@[simp] theorem setTime_doze (t : TimeBase) : (s.setTime t).doze = s.doze := rfl
@[simp] theorem setTime_loader (t : TimeBase) : (s.setTime t).loader = s.loader := rfl
@[simp] theorem setTime_params (t : TimeBase) : (s.setTime t).params = s.params := rfl

/-! setLink -/

@[simp] theorem setLink_pending (l : Link) : (s.setLink l).pending = s.pending := rfl
@[simp] theorem setLink_dir (l : Link) : (s.setLink l).dir = s.dir := rfl
@[simp] theorem setLink_arb (l : Link) : (s.setLink l).arb = s.arb := rfl
@[simp] theorem setLink_search (l : Link) : (s.setLink l).search = s.search := rfl
@[simp] theorem setLink_time (l : Link) : (s.setLink l).time = s.time := rfl
@[simp] theorem setLink_link (l : Link) : (s.setLink l).link = l := rfl
@[simp] theorem setLink_trunk (l : Link) : (s.setLink l).trunk = s.trunk := rfl
@[simp] theorem setLink_port (l : Link) : (s.setLink l).port = s.port := rfl
@[simp] theorem setLink_notify (l : Link) : (s.setLink l).notify = s.notify := rfl
@[simp] theorem setLink_doze (l : Link) : (s.setLink l).doze = s.doze := rfl
@[simp] theorem setLink_loader (l : Link) : (s.setLink l).loader = s.loader := rfl
@[simp] theorem setLink_params (l : Link) : (s.setLink l).params = s.params := rfl

/-! setTrunk -/

@[simp] theorem setTrunk_pending (u : TrunkUnit) : (s.setTrunk u).pending = s.pending := rfl
@[simp] theorem setTrunk_dir (u : TrunkUnit) : (s.setTrunk u).dir = s.dir := rfl
@[simp] theorem setTrunk_arb (u : TrunkUnit) : (s.setTrunk u).arb = s.arb := rfl
@[simp] theorem setTrunk_search (u : TrunkUnit) : (s.setTrunk u).search = s.search := rfl
@[simp] theorem setTrunk_time (u : TrunkUnit) : (s.setTrunk u).time = s.time := rfl
@[simp] theorem setTrunk_link (u : TrunkUnit) : (s.setTrunk u).link = s.link := rfl
@[simp] theorem setTrunk_trunk (u : TrunkUnit) : (s.setTrunk u).trunk = u := rfl
@[simp] theorem setTrunk_port (u : TrunkUnit) : (s.setTrunk u).port = s.port := rfl
@[simp] theorem setTrunk_notify (u : TrunkUnit) : (s.setTrunk u).notify = s.notify := rfl
@[simp] theorem setTrunk_doze (u : TrunkUnit) : (s.setTrunk u).doze = s.doze := rfl
@[simp] theorem setTrunk_loader (u : TrunkUnit) : (s.setTrunk u).loader = s.loader := rfl
@[simp] theorem setTrunk_params (u : TrunkUnit) : (s.setTrunk u).params = s.params := rfl

/-! setPort -/

@[simp] theorem setPort_pending (p : HostPort) : (s.setPort p).pending = s.pending := rfl
@[simp] theorem setPort_dir (p : HostPort) : (s.setPort p).dir = s.dir := rfl
@[simp] theorem setPort_arb (p : HostPort) : (s.setPort p).arb = s.arb := rfl
@[simp] theorem setPort_search (p : HostPort) : (s.setPort p).search = s.search := rfl
@[simp] theorem setPort_time (p : HostPort) : (s.setPort p).time = s.time := rfl
@[simp] theorem setPort_link (p : HostPort) : (s.setPort p).link = s.link := rfl
@[simp] theorem setPort_trunk (p : HostPort) : (s.setPort p).trunk = s.trunk := rfl
@[simp] theorem setPort_port (p : HostPort) : (s.setPort p).port = p := rfl
@[simp] theorem setPort_notify (p : HostPort) : (s.setPort p).notify = s.notify := rfl
@[simp] theorem setPort_doze (p : HostPort) : (s.setPort p).doze = s.doze := rfl
@[simp] theorem setPort_loader (p : HostPort) : (s.setPort p).loader = s.loader := rfl
@[simp] theorem setPort_params (p : HostPort) : (s.setPort p).params = s.params := rfl

/-! setDoze -/

@[simp] theorem setDoze_pending (d : Doze) : (s.setDoze d).pending = s.pending := rfl
@[simp] theorem setDoze_dir (d : Doze) : (s.setDoze d).dir = s.dir := rfl
@[simp] theorem setDoze_arb (d : Doze) : (s.setDoze d).arb = s.arb := rfl
@[simp] theorem setDoze_search (d : Doze) : (s.setDoze d).search = s.search := rfl
@[simp] theorem setDoze_time (d : Doze) : (s.setDoze d).time = s.time := rfl
@[simp] theorem setDoze_link (d : Doze) : (s.setDoze d).link = s.link := rfl
@[simp] theorem setDoze_trunk (d : Doze) : (s.setDoze d).trunk = s.trunk := rfl
@[simp] theorem setDoze_port (d : Doze) : (s.setDoze d).port = s.port := rfl
@[simp] theorem setDoze_notify (d : Doze) : (s.setDoze d).notify = s.notify := rfl
@[simp] theorem setDoze_doze (d : Doze) : (s.setDoze d).doze = d := rfl
@[simp] theorem setDoze_loader (d : Doze) : (s.setDoze d).loader = s.loader := rfl
@[simp] theorem setDoze_params (d : Doze) : (s.setDoze d).params = s.params := rfl

/-! setLoader -/

@[simp] theorem setLoader_pending (l : Loader) : (s.setLoader l).pending = s.pending := rfl
@[simp] theorem setLoader_dir (l : Loader) : (s.setLoader l).dir = s.dir := rfl
@[simp] theorem setLoader_arb (l : Loader) : (s.setLoader l).arb = s.arb := rfl
@[simp] theorem setLoader_search (l : Loader) : (s.setLoader l).search = s.search := rfl
@[simp] theorem setLoader_time (l : Loader) : (s.setLoader l).time = s.time := rfl
@[simp] theorem setLoader_link (l : Loader) : (s.setLoader l).link = s.link := rfl
@[simp] theorem setLoader_trunk (l : Loader) : (s.setLoader l).trunk = s.trunk := rfl
@[simp] theorem setLoader_port (l : Loader) : (s.setLoader l).port = s.port := rfl
@[simp] theorem setLoader_notify (l : Loader) : (s.setLoader l).notify = s.notify := rfl
@[simp] theorem setLoader_doze (l : Loader) : (s.setLoader l).doze = s.doze := rfl
@[simp] theorem setLoader_loader (l : Loader) : (s.setLoader l).loader = l := rfl
@[simp] theorem setLoader_params (l : Loader) : (s.setLoader l).params = s.params := rfl

/-! setParams -/

@[simp] theorem setParams_pending (p : Params) : (s.setParams p).pending = s.pending := rfl
@[simp] theorem setParams_dir (p : Params) : (s.setParams p).dir = s.dir := rfl
@[simp] theorem setParams_arb (p : Params) : (s.setParams p).arb = s.arb := rfl
@[simp] theorem setParams_search (p : Params) : (s.setParams p).search = s.search := rfl
@[simp] theorem setParams_time (p : Params) : (s.setParams p).time = s.time := rfl
@[simp] theorem setParams_link (p : Params) : (s.setParams p).link = s.link := rfl
@[simp] theorem setParams_trunk (p : Params) : (s.setParams p).trunk = s.trunk := rfl
@[simp] theorem setParams_port (p : Params) : (s.setParams p).port = s.port := rfl
@[simp] theorem setParams_notify (p : Params) : (s.setParams p).notify = s.notify := rfl
@[simp] theorem setParams_doze (p : Params) : (s.setParams p).doze = s.doze := rfl
@[simp] theorem setParams_loader (p : Params) : (s.setParams p).loader = s.loader := rfl
@[simp] theorem setParams_params (p : Params) : (s.setParams p).params = p := rfl

/-! setSearch -/

@[simp] theorem setSearch_pending (k : Fin 4) (x : SearchContext) : (s.setSearch k x).pending = s.pending := rfl
@[simp] theorem setSearch_dir (k : Fin 4) (x : SearchContext) : (s.setSearch k x).dir = s.dir := rfl
@[simp] theorem setSearch_arb (k : Fin 4) (x : SearchContext) : (s.setSearch k x).arb = s.arb := rfl
@[simp] theorem setSearch_search (k : Fin 4) (x : SearchContext) : (s.setSearch k x).search = s.search.set k x := rfl
@[simp] theorem setSearch_time (k : Fin 4) (x : SearchContext) : (s.setSearch k x).time = s.time := rfl
@[simp] theorem setSearch_link (k : Fin 4) (x : SearchContext) : (s.setSearch k x).link = s.link := rfl
@[simp] theorem setSearch_trunk (k : Fin 4) (x : SearchContext) : (s.setSearch k x).trunk = s.trunk := rfl
@[simp] theorem setSearch_port (k : Fin 4) (x : SearchContext) : (s.setSearch k x).port = s.port := rfl
@[simp] theorem setSearch_notify (k : Fin 4) (x : SearchContext) : (s.setSearch k x).notify = s.notify := rfl
@[simp] theorem setSearch_doze (k : Fin 4) (x : SearchContext) : (s.setSearch k x).doze = s.doze := rfl
@[simp] theorem setSearch_loader (k : Fin 4) (x : SearchContext) : (s.setSearch k x).loader = s.loader := rfl
@[simp] theorem setSearch_params (k : Fin 4) (x : SearchContext) : (s.setSearch k x).params = s.params := rfl

/-! setSlot -/

@[simp] theorem setSlot_pending (i : SlotNo) (x : Slot) : (s.setSlot i x).pending = s.pending := rfl
@[simp] theorem setSlot_dir (i : SlotNo) (x : Slot) : (s.setSlot i x).dir = { s.dir with slots := s.dir.slots.set i x } := rfl
@[simp] theorem setSlot_arb (i : SlotNo) (x : Slot) : (s.setSlot i x).arb = s.arb := rfl
@[simp] theorem setSlot_search (i : SlotNo) (x : Slot) : (s.setSlot i x).search = s.search := rfl
@[simp] theorem setSlot_time (i : SlotNo) (x : Slot) : (s.setSlot i x).time = s.time := rfl
@[simp] theorem setSlot_link (i : SlotNo) (x : Slot) : (s.setSlot i x).link = s.link := rfl
@[simp] theorem setSlot_trunk (i : SlotNo) (x : Slot) : (s.setSlot i x).trunk = s.trunk := rfl
@[simp] theorem setSlot_port (i : SlotNo) (x : Slot) : (s.setSlot i x).port = s.port := rfl
@[simp] theorem setSlot_notify (i : SlotNo) (x : Slot) : (s.setSlot i x).notify = s.notify := rfl
@[simp] theorem setSlot_doze (i : SlotNo) (x : Slot) : (s.setSlot i x).doze = s.doze := rfl
@[simp] theorem setSlot_loader (i : SlotNo) (x : Slot) : (s.setSlot i x).loader = s.loader := rfl
@[simp] theorem setSlot_params (i : SlotNo) (x : Slot) : (s.setSlot i x).params = s.params := rfl

/-! setEntry -/

@[simp] theorem setEntry_pending (i : SlotNo) (e : Entry) : (s.setEntry i e).pending = s.pending := rfl
@[simp] theorem setEntry_dir (i : SlotNo) (e : Entry) : (s.setEntry i e).dir = { s.dir with slots := s.dir.slots.set i { s.slot i with entry := some e } } := rfl
@[simp] theorem setEntry_arb (i : SlotNo) (e : Entry) : (s.setEntry i e).arb = s.arb := rfl
@[simp] theorem setEntry_search (i : SlotNo) (e : Entry) : (s.setEntry i e).search = s.search := rfl
@[simp] theorem setEntry_time (i : SlotNo) (e : Entry) : (s.setEntry i e).time = s.time := rfl
@[simp] theorem setEntry_link (i : SlotNo) (e : Entry) : (s.setEntry i e).link = s.link := rfl
@[simp] theorem setEntry_trunk (i : SlotNo) (e : Entry) : (s.setEntry i e).trunk = s.trunk := rfl
@[simp] theorem setEntry_port (i : SlotNo) (e : Entry) : (s.setEntry i e).port = s.port := rfl
@[simp] theorem setEntry_notify (i : SlotNo) (e : Entry) : (s.setEntry i e).notify = s.notify := rfl
@[simp] theorem setEntry_doze (i : SlotNo) (e : Entry) : (s.setEntry i e).doze = s.doze := rfl
@[simp] theorem setEntry_loader (i : SlotNo) (e : Entry) : (s.setEntry i e).loader = s.loader := rfl
@[simp] theorem setEntry_params (i : SlotNo) (e : Entry) : (s.setEntry i e).params = s.params := rfl

/-! freeSlot -/

@[simp] theorem freeSlot_pending (i : SlotNo) : (freeSlot i s).pending = s.pending := rfl
@[simp] theorem freeSlot_dir (i : SlotNo) : (freeSlot i s).dir = { s.dir with slots := s.dir.slots.set i { s.slot i with entry := none }, free := s.dir.free ++ [i] } := rfl
@[simp] theorem freeSlot_arb (i : SlotNo) : (freeSlot i s).arb = s.arb := rfl
@[simp] theorem freeSlot_search (i : SlotNo) : (freeSlot i s).search = s.search := rfl
@[simp] theorem freeSlot_time (i : SlotNo) : (freeSlot i s).time = s.time := rfl
@[simp] theorem freeSlot_link (i : SlotNo) : (freeSlot i s).link = s.link := rfl
@[simp] theorem freeSlot_trunk (i : SlotNo) : (freeSlot i s).trunk = s.trunk := rfl
@[simp] theorem freeSlot_port (i : SlotNo) : (freeSlot i s).port = s.port := rfl
@[simp] theorem freeSlot_notify (i : SlotNo) : (freeSlot i s).notify = s.notify := rfl
@[simp] theorem freeSlot_doze (i : SlotNo) : (freeSlot i s).doze = s.doze := rfl
@[simp] theorem freeSlot_loader (i : SlotNo) : (freeSlot i s).loader = s.loader := rfl
@[simp] theorem freeSlot_params (i : SlotNo) : (freeSlot i s).params = s.params := rfl

/-! setContext -/

@[simp] theorem setContext_pending (c : Fin 6) (t : TrunkContext) : (s.setContext c t).pending = s.pending := rfl
@[simp] theorem setContext_dir (c : Fin 6) (t : TrunkContext) : (s.setContext c t).dir = s.dir := rfl
@[simp] theorem setContext_arb (c : Fin 6) (t : TrunkContext) : (s.setContext c t).arb = s.arb := rfl
@[simp] theorem setContext_search (c : Fin 6) (t : TrunkContext) : (s.setContext c t).search = s.search := rfl
@[simp] theorem setContext_time (c : Fin 6) (t : TrunkContext) : (s.setContext c t).time = s.time := rfl
@[simp] theorem setContext_link (c : Fin 6) (t : TrunkContext) : (s.setContext c t).link = s.link := rfl
@[simp] theorem setContext_trunk (c : Fin 6) (t : TrunkContext) : (s.setContext c t).trunk = { s.trunk with contexts := s.trunk.contexts.set c t } := rfl
@[simp] theorem setContext_port (c : Fin 6) (t : TrunkContext) : (s.setContext c t).port = s.port := rfl
@[simp] theorem setContext_notify (c : Fin 6) (t : TrunkContext) : (s.setContext c t).notify = s.notify := rfl
@[simp] theorem setContext_doze (c : Fin 6) (t : TrunkContext) : (s.setContext c t).doze = s.doze := rfl
@[simp] theorem setContext_loader (c : Fin 6) (t : TrunkContext) : (s.setContext c t).loader = s.loader := rfl
@[simp] theorem setContext_params (c : Fin 6) (t : TrunkContext) : (s.setContext c t).params = s.params := rfl

/-! clearContext -/

@[simp] theorem clearContext_pending (c : Fin 6) : (clearContext c s).pending = s.pending := rfl
@[simp] theorem clearContext_dir (c : Fin 6) : (clearContext c s).dir = s.dir := rfl
@[simp] theorem clearContext_arb (c : Fin 6) : (clearContext c s).arb = s.arb := rfl
@[simp] theorem clearContext_search (c : Fin 6) : (clearContext c s).search = s.search := rfl
@[simp] theorem clearContext_time (c : Fin 6) : (clearContext c s).time = s.time := rfl
@[simp] theorem clearContext_link (c : Fin 6) : (clearContext c s).link = s.link := rfl
@[simp] theorem clearContext_trunk (c : Fin 6) : (clearContext c s).trunk = { s.trunk with contexts := s.trunk.contexts.set c (TrunkContext.idleWith (s.context c).ticket) } := rfl
@[simp] theorem clearContext_port (c : Fin 6) : (clearContext c s).port = s.port := rfl
@[simp] theorem clearContext_notify (c : Fin 6) : (clearContext c s).notify = s.notify := rfl
@[simp] theorem clearContext_doze (c : Fin 6) : (clearContext c s).doze = s.doze := rfl
@[simp] theorem clearContext_loader (c : Fin 6) : (clearContext c s).loader = s.loader := rfl
@[simp] theorem clearContext_params (c : Fin 6) : (clearContext c s).params = s.params := rfl

/-! buildReply -/

@[simp] theorem buildReply_pending (c : Fin 6) (r : Reply) : (buildReply c r s).pending = s.pending := rfl
@[simp] theorem buildReply_dir (c : Fin 6) (r : Reply) : (buildReply c r s).dir = s.dir := rfl
@[simp] theorem buildReply_arb (c : Fin 6) (r : Reply) : (buildReply c r s).arb = s.arb := rfl
@[simp] theorem buildReply_search (c : Fin 6) (r : Reply) : (buildReply c r s).search = s.search := rfl
@[simp] theorem buildReply_time (c : Fin 6) (r : Reply) : (buildReply c r s).time = s.time := rfl
@[simp] theorem buildReply_link (c : Fin 6) (r : Reply) : (buildReply c r s).link = s.link := rfl
@[simp] theorem buildReply_trunk (c : Fin 6) (r : Reply) : (buildReply c r s).trunk = { contexts := s.trunk.contexts.set c { s.context c with state := .replyReady, linked := none, deadline := none, reply := some r }, received := s.trunk.received, ready := s.trunk.ready ++ [c] } := rfl
@[simp] theorem buildReply_port (c : Fin 6) (r : Reply) : (buildReply c r s).port = s.port := rfl
@[simp] theorem buildReply_notify (c : Fin 6) (r : Reply) : (buildReply c r s).notify = s.notify := rfl
@[simp] theorem buildReply_doze (c : Fin 6) (r : Reply) : (buildReply c r s).doze = s.doze := rfl
@[simp] theorem buildReply_loader (c : Fin 6) (r : Reply) : (buildReply c r s).loader = s.loader := rfl
@[simp] theorem buildReply_params (c : Fin 6) (r : Reply) : (buildReply c r s).params = s.params := rfl

/-! setCommandSlot -/

@[simp] theorem setCommandSlot_pending (n : Fin 4) (c : CommandSlot) : (s.setCommandSlot n c).pending = s.pending := rfl
@[simp] theorem setCommandSlot_dir (n : Fin 4) (c : CommandSlot) : (s.setCommandSlot n c).dir = s.dir := rfl
@[simp] theorem setCommandSlot_arb (n : Fin 4) (c : CommandSlot) : (s.setCommandSlot n c).arb = s.arb := rfl
@[simp] theorem setCommandSlot_search (n : Fin 4) (c : CommandSlot) : (s.setCommandSlot n c).search = s.search := rfl
@[simp] theorem setCommandSlot_time (n : Fin 4) (c : CommandSlot) : (s.setCommandSlot n c).time = s.time := rfl
@[simp] theorem setCommandSlot_link (n : Fin 4) (c : CommandSlot) : (s.setCommandSlot n c).link = s.link := rfl
@[simp] theorem setCommandSlot_trunk (n : Fin 4) (c : CommandSlot) : (s.setCommandSlot n c).trunk = s.trunk := rfl
@[simp] theorem setCommandSlot_port (n : Fin 4) (c : CommandSlot) : (s.setCommandSlot n c).port = { s.port with slots := s.port.slots.set n c } := rfl
@[simp] theorem setCommandSlot_notify (n : Fin 4) (c : CommandSlot) : (s.setCommandSlot n c).notify = s.notify := rfl
@[simp] theorem setCommandSlot_doze (n : Fin 4) (c : CommandSlot) : (s.setCommandSlot n c).doze = s.doze := rfl
@[simp] theorem setCommandSlot_loader (n : Fin 4) (c : CommandSlot) : (s.setCommandSlot n c).loader = s.loader := rfl
@[simp] theorem setCommandSlot_params (n : Fin 4) (c : CommandSlot) : (s.setCommandSlot n c).params = s.params := rfl

/-! recordGrant -/

@[simp] theorem recordGrant_pending (g : GrantClass) : (recordGrant g s).pending = s.pending := rfl
@[simp] theorem recordGrant_dir (g : GrantClass) : (recordGrant g s).dir = s.dir := rfl
@[simp] theorem recordGrant_arb (g : GrantClass) : (recordGrant g s).arb = { s.arb with lastGranted := g } := rfl
@[simp] theorem recordGrant_search (g : GrantClass) : (recordGrant g s).search = s.search := rfl
@[simp] theorem recordGrant_time (g : GrantClass) : (recordGrant g s).time = s.time := rfl
@[simp] theorem recordGrant_link (g : GrantClass) : (recordGrant g s).link = s.link := rfl
@[simp] theorem recordGrant_trunk (g : GrantClass) : (recordGrant g s).trunk = s.trunk := rfl
@[simp] theorem recordGrant_port (g : GrantClass) : (recordGrant g s).port = s.port := rfl
@[simp] theorem recordGrant_notify (g : GrantClass) : (recordGrant g s).notify = s.notify := rfl
@[simp] theorem recordGrant_doze (g : GrantClass) : (recordGrant g s).doze = s.doze := rfl
@[simp] theorem recordGrant_loader (g : GrantClass) : (recordGrant g s).loader = s.loader := rfl
@[simp] theorem recordGrant_params (g : GrantClass) : (recordGrant g s).params = s.params := rfl

/-! setFlag -/

@[simp] theorem setFlag_pending (f : Flag) : (setFlag f s).pending = s.pending := rfl
@[simp] theorem setFlag_dir (f : Flag) : (setFlag f s).dir = s.dir := rfl
@[simp] theorem setFlag_arb (f : Flag) : (setFlag f s).arb = s.arb := rfl
@[simp] theorem setFlag_search (f : Flag) : (setFlag f s).search = s.search := rfl
@[simp] theorem setFlag_time (f : Flag) : (setFlag f s).time = s.time := rfl
@[simp] theorem setFlag_link (f : Flag) : (setFlag f s).link = s.link := rfl
@[simp] theorem setFlag_trunk (f : Flag) : (setFlag f s).trunk = s.trunk := rfl
@[simp] theorem setFlag_port (f : Flag) : (setFlag f s).port = s.port := rfl
@[simp] theorem setFlag_notify (f : Flag) : (setFlag f s).notify = { s.notify with flags := s.notify.flags ||| bitMask f.bit } := rfl
@[simp] theorem setFlag_doze (f : Flag) : (setFlag f s).doze = s.doze := rfl
@[simp] theorem setFlag_loader (f : Flag) : (setFlag f s).loader = s.loader := rfl
@[simp] theorem setFlag_params (f : Flag) : (setFlag f s).params = s.params := rfl

/-! setTrunkCause -/

@[simp] theorem setTrunkCause_pending (c : Cause) : (setTrunkCause c s).pending = s.pending := rfl
@[simp] theorem setTrunkCause_dir (c : Cause) : (setTrunkCause c s).dir = s.dir := rfl
@[simp] theorem setTrunkCause_arb (c : Cause) : (setTrunkCause c s).arb = s.arb := rfl
@[simp] theorem setTrunkCause_search (c : Cause) : (setTrunkCause c s).search = s.search := rfl
@[simp] theorem setTrunkCause_time (c : Cause) : (setTrunkCause c s).time = s.time := rfl
@[simp] theorem setTrunkCause_link (c : Cause) : (setTrunkCause c s).link = s.link := rfl
@[simp] theorem setTrunkCause_trunk (c : Cause) : (setTrunkCause c s).trunk = s.trunk := rfl
@[simp] theorem setTrunkCause_port (c : Cause) : (setTrunkCause c s).port = s.port := rfl
@[simp] theorem setTrunkCause_notify (c : Cause) : (setTrunkCause c s).notify = { s.notify with flags := s.notify.flags ||| bitMask Flag.trunk.bit, cause := s.notify.cause ||| bitMask c.bit } := rfl
@[simp] theorem setTrunkCause_doze (c : Cause) : (setTrunkCause c s).doze = s.doze := rfl
@[simp] theorem setTrunkCause_loader (c : Cause) : (setTrunkCause c s).loader = s.loader := rfl
@[simp] theorem setTrunkCause_params (c : Cause) : (setTrunkCause c s).params = s.params := rfl

/-! takeCommand -/

@[simp] theorem takeCommand_pending : (takeCommand s).pending = s.pending := rfl
@[simp] theorem takeCommand_dir : (takeCommand s).dir = s.dir := rfl
@[simp] theorem takeCommand_arb : (takeCommand s).arb = { s.arb with lastGranted := .command } := rfl
@[simp] theorem takeCommand_search : (takeCommand s).search = s.search := rfl
@[simp] theorem takeCommand_time : (takeCommand s).time = s.time := rfl
@[simp] theorem takeCommand_link : (takeCommand s).link = s.link := rfl
@[simp] theorem takeCommand_trunk : (takeCommand s).trunk = s.trunk := rfl
@[simp] theorem takeCommand_port : (takeCommand s).port = { s.port with postOrder := s.port.postOrder.tail } := rfl
@[simp] theorem takeCommand_notify : (takeCommand s).notify = s.notify := rfl
@[simp] theorem takeCommand_doze : (takeCommand s).doze = s.doze := rfl
@[simp] theorem takeCommand_loader : (takeCommand s).loader = s.loader := rfl
@[simp] theorem takeCommand_params : (takeCommand s).params = s.params := rfl

/-! takeRequest -/

@[simp] theorem takeRequest_pending : (takeRequest s).pending = s.pending := rfl
@[simp] theorem takeRequest_dir : (takeRequest s).dir = s.dir := rfl
@[simp] theorem takeRequest_arb : (takeRequest s).arb = { s.arb with lastGranted := .trunk } := rfl
@[simp] theorem takeRequest_search : (takeRequest s).search = s.search := rfl
@[simp] theorem takeRequest_time : (takeRequest s).time = s.time := rfl
@[simp] theorem takeRequest_link : (takeRequest s).link = s.link := rfl
@[simp] theorem takeRequest_trunk : (takeRequest s).trunk = { s.trunk with received := s.trunk.received.tail } := rfl
@[simp] theorem takeRequest_port : (takeRequest s).port = s.port := rfl
@[simp] theorem takeRequest_notify : (takeRequest s).notify = s.notify := rfl
@[simp] theorem takeRequest_doze : (takeRequest s).doze = s.doze := rfl
@[simp] theorem takeRequest_loader : (takeRequest s).loader = s.loader := rfl
@[simp] theorem takeRequest_params : (takeRequest s).params = s.params := rfl

/-! writeFlags -/

@[simp] theorem writeFlags_pending (v : Byte) : (writeFlags v s).pending = s.pending := rfl
@[simp] theorem writeFlags_dir (v : Byte) : (writeFlags v s).dir = s.dir := rfl
@[simp] theorem writeFlags_arb (v : Byte) : (writeFlags v s).arb = s.arb := rfl
@[simp] theorem writeFlags_search (v : Byte) : (writeFlags v s).search = s.search := rfl
@[simp] theorem writeFlags_time (v : Byte) : (writeFlags v s).time = s.time := rfl
@[simp] theorem writeFlags_link (v : Byte) : (writeFlags v s).link = s.link := rfl
@[simp] theorem writeFlags_trunk (v : Byte) : (writeFlags v s).trunk = s.trunk := rfl
@[simp] theorem writeFlags_port (v : Byte) : (writeFlags v s).port = s.port := rfl
@[simp] theorem writeFlags_notify (v : Byte) : (writeFlags v s).notify = { s.notify with flags := clearOnes s.notify.flags v } := rfl
@[simp] theorem writeFlags_doze (v : Byte) : (writeFlags v s).doze = if v.getLsbD Flag.wake.bit then { s.doze with record := none } else s.doze := rfl
@[simp] theorem writeFlags_loader (v : Byte) : (writeFlags v s).loader = s.loader := rfl
@[simp] theorem writeFlags_params (v : Byte) : (writeFlags v s).params = s.params := rfl

/-! writeCause -/

@[simp] theorem writeCause_pending (v : Byte) : (writeCause v s).pending = s.pending := rfl
@[simp] theorem writeCause_dir (v : Byte) : (writeCause v s).dir = s.dir := rfl
@[simp] theorem writeCause_arb (v : Byte) : (writeCause v s).arb = s.arb := rfl
@[simp] theorem writeCause_search (v : Byte) : (writeCause v s).search = s.search := rfl
@[simp] theorem writeCause_time (v : Byte) : (writeCause v s).time = s.time := rfl
@[simp] theorem writeCause_link (v : Byte) : (writeCause v s).link = s.link := rfl
@[simp] theorem writeCause_trunk (v : Byte) : (writeCause v s).trunk = s.trunk := rfl
@[simp] theorem writeCause_port (v : Byte) : (writeCause v s).port = s.port := rfl
@[simp] theorem writeCause_notify (v : Byte) : (writeCause v s).notify = { s.notify with cause := clearOnes s.notify.cause v } := rfl
@[simp] theorem writeCause_doze (v : Byte) : (writeCause v s).doze = s.doze := rfl
@[simp] theorem writeCause_loader (v : Byte) : (writeCause v s).loader = s.loader := rfl
@[simp] theorem writeCause_params (v : Byte) : (writeCause v s).params = s.params := rfl

/-! writeEnables -/

@[simp] theorem writeEnables_pending (v : Byte) : (writeEnables v s).pending = s.pending := rfl
@[simp] theorem writeEnables_dir (v : Byte) : (writeEnables v s).dir = s.dir := rfl
@[simp] theorem writeEnables_arb (v : Byte) : (writeEnables v s).arb = s.arb := rfl
@[simp] theorem writeEnables_search (v : Byte) : (writeEnables v s).search = s.search := rfl
@[simp] theorem writeEnables_time (v : Byte) : (writeEnables v s).time = s.time := rfl
@[simp] theorem writeEnables_link (v : Byte) : (writeEnables v s).link = s.link := rfl
@[simp] theorem writeEnables_trunk (v : Byte) : (writeEnables v s).trunk = s.trunk := rfl
@[simp] theorem writeEnables_port (v : Byte) : (writeEnables v s).port = s.port := rfl
@[simp] theorem writeEnables_notify (v : Byte) : (writeEnables v s).notify = { s.notify with enables := v } := rfl
@[simp] theorem writeEnables_doze (v : Byte) : (writeEnables v s).doze = s.doze := rfl
@[simp] theorem writeEnables_loader (v : Byte) : (writeEnables v s).loader = s.loader := rfl
@[simp] theorem writeEnables_params (v : Byte) : (writeEnables v s).params = s.params := rfl

/-! The views of a state that read one block only. -/

@[simp] theorem setArb_slot (a : Arbiter) (j : SlotNo) : (s.setArb a).slot j = s.slot j := rfl
@[simp] theorem setTime_slot (t : TimeBase) (j : SlotNo) : (s.setTime t).slot j = s.slot j := rfl
@[simp] theorem setLink_slot (l : Link) (j : SlotNo) : (s.setLink l).slot j = s.slot j := rfl
@[simp] theorem setTrunk_slot (u : TrunkUnit) (j : SlotNo) : (s.setTrunk u).slot j = s.slot j := rfl
@[simp] theorem setPort_slot (p : HostPort) (j : SlotNo) : (s.setPort p).slot j = s.slot j := rfl
@[simp] theorem setDoze_slot (d : Doze) (j : SlotNo) : (s.setDoze d).slot j = s.slot j := rfl
@[simp] theorem setLoader_slot (l : Loader) (j : SlotNo) : (s.setLoader l).slot j = s.slot j := rfl
@[simp] theorem setParams_slot (p : Params) (j : SlotNo) : (s.setParams p).slot j = s.slot j := rfl
@[simp] theorem setSearch_slot (k : Fin 4) (x : SearchContext) (j : SlotNo) : (s.setSearch k x).slot j = s.slot j := rfl
@[simp] theorem setContext_slot (c : Fin 6) (t : TrunkContext) (j : SlotNo) : (s.setContext c t).slot j = s.slot j := rfl
@[simp] theorem clearContext_slot (c : Fin 6) (j : SlotNo) : (clearContext c s).slot j = s.slot j := rfl
@[simp] theorem buildReply_slot (c : Fin 6) (r : Reply) (j : SlotNo) : (buildReply c r s).slot j = s.slot j := rfl
@[simp] theorem setCommandSlot_slot (n : Fin 4) (c : CommandSlot) (j : SlotNo) : (s.setCommandSlot n c).slot j = s.slot j := rfl
@[simp] theorem recordGrant_slot (g : GrantClass) (j : SlotNo) : (recordGrant g s).slot j = s.slot j := rfl
@[simp] theorem setFlag_slot (f : Flag) (j : SlotNo) : (setFlag f s).slot j = s.slot j := rfl
@[simp] theorem setTrunkCause_slot (c : Cause) (j : SlotNo) : (setTrunkCause c s).slot j = s.slot j := rfl
@[simp] theorem takeCommand_slot (j : SlotNo) : (takeCommand s).slot j = s.slot j := rfl
@[simp] theorem takeRequest_slot (j : SlotNo) : (takeRequest s).slot j = s.slot j := rfl
@[simp] theorem writeFlags_slot (v : Byte) (j : SlotNo) : (writeFlags v s).slot j = s.slot j := rfl
@[simp] theorem writeCause_slot (v : Byte) (j : SlotNo) : (writeCause v s).slot j = s.slot j := rfl
@[simp] theorem writeEnables_slot (v : Byte) (j : SlotNo) : (writeEnables v s).slot j = s.slot j := rfl
@[simp] theorem setArb_entryOf (a : Arbiter) (j : SlotNo) : (s.setArb a).entryOf j = s.entryOf j := rfl
@[simp] theorem setTime_entryOf (t : TimeBase) (j : SlotNo) : (s.setTime t).entryOf j = s.entryOf j := rfl
@[simp] theorem setLink_entryOf (l : Link) (j : SlotNo) : (s.setLink l).entryOf j = s.entryOf j := rfl
@[simp] theorem setTrunk_entryOf (u : TrunkUnit) (j : SlotNo) : (s.setTrunk u).entryOf j = s.entryOf j := rfl
@[simp] theorem setPort_entryOf (p : HostPort) (j : SlotNo) : (s.setPort p).entryOf j = s.entryOf j := rfl
@[simp] theorem setDoze_entryOf (d : Doze) (j : SlotNo) : (s.setDoze d).entryOf j = s.entryOf j := rfl
@[simp] theorem setLoader_entryOf (l : Loader) (j : SlotNo) : (s.setLoader l).entryOf j = s.entryOf j := rfl
@[simp] theorem setParams_entryOf (p : Params) (j : SlotNo) : (s.setParams p).entryOf j = s.entryOf j := rfl
@[simp] theorem setSearch_entryOf (k : Fin 4) (x : SearchContext) (j : SlotNo) : (s.setSearch k x).entryOf j = s.entryOf j := rfl
@[simp] theorem setContext_entryOf (c : Fin 6) (t : TrunkContext) (j : SlotNo) : (s.setContext c t).entryOf j = s.entryOf j := rfl
@[simp] theorem clearContext_entryOf (c : Fin 6) (j : SlotNo) : (clearContext c s).entryOf j = s.entryOf j := rfl
@[simp] theorem buildReply_entryOf (c : Fin 6) (r : Reply) (j : SlotNo) : (buildReply c r s).entryOf j = s.entryOf j := rfl
@[simp] theorem setCommandSlot_entryOf (n : Fin 4) (c : CommandSlot) (j : SlotNo) : (s.setCommandSlot n c).entryOf j = s.entryOf j := rfl
@[simp] theorem recordGrant_entryOf (g : GrantClass) (j : SlotNo) : (recordGrant g s).entryOf j = s.entryOf j := rfl
@[simp] theorem setFlag_entryOf (f : Flag) (j : SlotNo) : (setFlag f s).entryOf j = s.entryOf j := rfl
@[simp] theorem setTrunkCause_entryOf (c : Cause) (j : SlotNo) : (setTrunkCause c s).entryOf j = s.entryOf j := rfl
@[simp] theorem takeCommand_entryOf (j : SlotNo) : (takeCommand s).entryOf j = s.entryOf j := rfl
@[simp] theorem takeRequest_entryOf (j : SlotNo) : (takeRequest s).entryOf j = s.entryOf j := rfl
@[simp] theorem writeFlags_entryOf (v : Byte) (j : SlotNo) : (writeFlags v s).entryOf j = s.entryOf j := rfl
@[simp] theorem writeCause_entryOf (v : Byte) (j : SlotNo) : (writeCause v s).entryOf j = s.entryOf j := rfl
@[simp] theorem writeEnables_entryOf (v : Byte) (j : SlotNo) : (writeEnables v s).entryOf j = s.entryOf j := rfl
@[simp] theorem setArb_handleOf (a : Arbiter) (j : SlotNo) : (s.setArb a).handleOf j = s.handleOf j := rfl
@[simp] theorem setTime_handleOf (t : TimeBase) (j : SlotNo) : (s.setTime t).handleOf j = s.handleOf j := rfl
@[simp] theorem setLink_handleOf (l : Link) (j : SlotNo) : (s.setLink l).handleOf j = s.handleOf j := rfl
@[simp] theorem setTrunk_handleOf (u : TrunkUnit) (j : SlotNo) : (s.setTrunk u).handleOf j = s.handleOf j := rfl
@[simp] theorem setPort_handleOf (p : HostPort) (j : SlotNo) : (s.setPort p).handleOf j = s.handleOf j := rfl
@[simp] theorem setDoze_handleOf (d : Doze) (j : SlotNo) : (s.setDoze d).handleOf j = s.handleOf j := rfl
@[simp] theorem setLoader_handleOf (l : Loader) (j : SlotNo) : (s.setLoader l).handleOf j = s.handleOf j := rfl
@[simp] theorem setParams_handleOf (p : Params) (j : SlotNo) : (s.setParams p).handleOf j = s.handleOf j := rfl
@[simp] theorem setSearch_handleOf (k : Fin 4) (x : SearchContext) (j : SlotNo) : (s.setSearch k x).handleOf j = s.handleOf j := rfl
@[simp] theorem setContext_handleOf (c : Fin 6) (t : TrunkContext) (j : SlotNo) : (s.setContext c t).handleOf j = s.handleOf j := rfl
@[simp] theorem clearContext_handleOf (c : Fin 6) (j : SlotNo) : (clearContext c s).handleOf j = s.handleOf j := rfl
@[simp] theorem buildReply_handleOf (c : Fin 6) (r : Reply) (j : SlotNo) : (buildReply c r s).handleOf j = s.handleOf j := rfl
@[simp] theorem setCommandSlot_handleOf (n : Fin 4) (c : CommandSlot) (j : SlotNo) : (s.setCommandSlot n c).handleOf j = s.handleOf j := rfl
@[simp] theorem recordGrant_handleOf (g : GrantClass) (j : SlotNo) : (recordGrant g s).handleOf j = s.handleOf j := rfl
@[simp] theorem setFlag_handleOf (f : Flag) (j : SlotNo) : (setFlag f s).handleOf j = s.handleOf j := rfl
@[simp] theorem setTrunkCause_handleOf (c : Cause) (j : SlotNo) : (setTrunkCause c s).handleOf j = s.handleOf j := rfl
@[simp] theorem takeCommand_handleOf (j : SlotNo) : (takeCommand s).handleOf j = s.handleOf j := rfl
@[simp] theorem takeRequest_handleOf (j : SlotNo) : (takeRequest s).handleOf j = s.handleOf j := rfl
@[simp] theorem writeFlags_handleOf (v : Byte) (j : SlotNo) : (writeFlags v s).handleOf j = s.handleOf j := rfl
@[simp] theorem writeCause_handleOf (v : Byte) (j : SlotNo) : (writeCause v s).handleOf j = s.handleOf j := rfl
@[simp] theorem writeEnables_handleOf (v : Byte) (j : SlotNo) : (writeEnables v s).handleOf j = s.handleOf j := rfl
@[simp] theorem setDir_context (d : Directory) (c' : Fin 6) : (s.setDir d).context c' = s.context c' := rfl
@[simp] theorem setArb_context (a : Arbiter) (c' : Fin 6) : (s.setArb a).context c' = s.context c' := rfl
@[simp] theorem setTime_context (t : TimeBase) (c' : Fin 6) : (s.setTime t).context c' = s.context c' := rfl
@[simp] theorem setLink_context (l : Link) (c' : Fin 6) : (s.setLink l).context c' = s.context c' := rfl
@[simp] theorem setPort_context (p : HostPort) (c' : Fin 6) : (s.setPort p).context c' = s.context c' := rfl
@[simp] theorem setDoze_context (d : Doze) (c' : Fin 6) : (s.setDoze d).context c' = s.context c' := rfl
@[simp] theorem setLoader_context (l : Loader) (c' : Fin 6) : (s.setLoader l).context c' = s.context c' := rfl
@[simp] theorem setParams_context (p : Params) (c' : Fin 6) : (s.setParams p).context c' = s.context c' := rfl
@[simp] theorem setSearch_context (k : Fin 4) (x : SearchContext) (c' : Fin 6) : (s.setSearch k x).context c' = s.context c' := rfl
@[simp] theorem setSlot_context (i : SlotNo) (x : Slot) (c' : Fin 6) : (s.setSlot i x).context c' = s.context c' := rfl
@[simp] theorem setEntry_context (i : SlotNo) (e : Entry) (c' : Fin 6) : (s.setEntry i e).context c' = s.context c' := rfl
@[simp] theorem freeSlot_context (i : SlotNo) (c' : Fin 6) : (freeSlot i s).context c' = s.context c' := rfl
@[simp] theorem setCommandSlot_context (n : Fin 4) (c : CommandSlot) (c' : Fin 6) : (s.setCommandSlot n c).context c' = s.context c' := rfl
@[simp] theorem recordGrant_context (g : GrantClass) (c' : Fin 6) : (recordGrant g s).context c' = s.context c' := rfl
@[simp] theorem setFlag_context (f : Flag) (c' : Fin 6) : (setFlag f s).context c' = s.context c' := rfl
@[simp] theorem setTrunkCause_context (c : Cause) (c' : Fin 6) : (setTrunkCause c s).context c' = s.context c' := rfl
@[simp] theorem takeCommand_context (c' : Fin 6) : (takeCommand s).context c' = s.context c' := rfl
@[simp] theorem takeRequest_context (c' : Fin 6) : (takeRequest s).context c' = s.context c' := rfl
@[simp] theorem writeFlags_context (v : Byte) (c' : Fin 6) : (writeFlags v s).context c' = s.context c' := rfl
@[simp] theorem writeCause_context (v : Byte) (c' : Fin 6) : (writeCause v s).context c' = s.context c' := rfl
@[simp] theorem writeEnables_context (v : Byte) (c' : Fin 6) : (writeEnables v s).context c' = s.context c' := rfl
@[simp] theorem setDir_searchContext (d : Directory) (m : Fin 4) : (s.setDir d).searchContext m = s.searchContext m := rfl
@[simp] theorem setArb_searchContext (a : Arbiter) (m : Fin 4) : (s.setArb a).searchContext m = s.searchContext m := rfl
@[simp] theorem setTime_searchContext (t : TimeBase) (m : Fin 4) : (s.setTime t).searchContext m = s.searchContext m := rfl
@[simp] theorem setLink_searchContext (l : Link) (m : Fin 4) : (s.setLink l).searchContext m = s.searchContext m := rfl
@[simp] theorem setTrunk_searchContext (u : TrunkUnit) (m : Fin 4) : (s.setTrunk u).searchContext m = s.searchContext m := rfl
@[simp] theorem setPort_searchContext (p : HostPort) (m : Fin 4) : (s.setPort p).searchContext m = s.searchContext m := rfl
@[simp] theorem setDoze_searchContext (d : Doze) (m : Fin 4) : (s.setDoze d).searchContext m = s.searchContext m := rfl
@[simp] theorem setLoader_searchContext (l : Loader) (m : Fin 4) : (s.setLoader l).searchContext m = s.searchContext m := rfl
@[simp] theorem setParams_searchContext (p : Params) (m : Fin 4) : (s.setParams p).searchContext m = s.searchContext m := rfl
@[simp] theorem setSlot_searchContext (i : SlotNo) (x : Slot) (m : Fin 4) : (s.setSlot i x).searchContext m = s.searchContext m := rfl
@[simp] theorem setEntry_searchContext (i : SlotNo) (e : Entry) (m : Fin 4) : (s.setEntry i e).searchContext m = s.searchContext m := rfl
@[simp] theorem freeSlot_searchContext (i : SlotNo) (m : Fin 4) : (freeSlot i s).searchContext m = s.searchContext m := rfl
@[simp] theorem setContext_searchContext (c : Fin 6) (t : TrunkContext) (m : Fin 4) : (s.setContext c t).searchContext m = s.searchContext m := rfl
@[simp] theorem clearContext_searchContext (c : Fin 6) (m : Fin 4) : (clearContext c s).searchContext m = s.searchContext m := rfl
@[simp] theorem buildReply_searchContext (c : Fin 6) (r : Reply) (m : Fin 4) : (buildReply c r s).searchContext m = s.searchContext m := rfl
@[simp] theorem setCommandSlot_searchContext (n : Fin 4) (c : CommandSlot) (m : Fin 4) : (s.setCommandSlot n c).searchContext m = s.searchContext m := rfl
@[simp] theorem recordGrant_searchContext (g : GrantClass) (m : Fin 4) : (recordGrant g s).searchContext m = s.searchContext m := rfl
@[simp] theorem setFlag_searchContext (f : Flag) (m : Fin 4) : (setFlag f s).searchContext m = s.searchContext m := rfl
@[simp] theorem setTrunkCause_searchContext (c : Cause) (m : Fin 4) : (setTrunkCause c s).searchContext m = s.searchContext m := rfl
@[simp] theorem takeCommand_searchContext (m : Fin 4) : (takeCommand s).searchContext m = s.searchContext m := rfl
@[simp] theorem takeRequest_searchContext (m : Fin 4) : (takeRequest s).searchContext m = s.searchContext m := rfl
@[simp] theorem writeFlags_searchContext (v : Byte) (m : Fin 4) : (writeFlags v s).searchContext m = s.searchContext m := rfl
@[simp] theorem writeCause_searchContext (v : Byte) (m : Fin 4) : (writeCause v s).searchContext m = s.searchContext m := rfl
@[simp] theorem writeEnables_searchContext (v : Byte) (m : Fin 4) : (writeEnables v s).searchContext m = s.searchContext m := rfl
@[simp] theorem setDir_commandSlot (d : Directory) (m : Fin 4) : (s.setDir d).commandSlot m = s.commandSlot m := rfl
@[simp] theorem setArb_commandSlot (a : Arbiter) (m : Fin 4) : (s.setArb a).commandSlot m = s.commandSlot m := rfl
@[simp] theorem setTime_commandSlot (t : TimeBase) (m : Fin 4) : (s.setTime t).commandSlot m = s.commandSlot m := rfl
@[simp] theorem setLink_commandSlot (l : Link) (m : Fin 4) : (s.setLink l).commandSlot m = s.commandSlot m := rfl
@[simp] theorem setTrunk_commandSlot (u : TrunkUnit) (m : Fin 4) : (s.setTrunk u).commandSlot m = s.commandSlot m := rfl
@[simp] theorem setDoze_commandSlot (d : Doze) (m : Fin 4) : (s.setDoze d).commandSlot m = s.commandSlot m := rfl
@[simp] theorem setLoader_commandSlot (l : Loader) (m : Fin 4) : (s.setLoader l).commandSlot m = s.commandSlot m := rfl
@[simp] theorem setParams_commandSlot (p : Params) (m : Fin 4) : (s.setParams p).commandSlot m = s.commandSlot m := rfl
@[simp] theorem setSearch_commandSlot (k : Fin 4) (x : SearchContext) (m : Fin 4) : (s.setSearch k x).commandSlot m = s.commandSlot m := rfl
@[simp] theorem setSlot_commandSlot (i : SlotNo) (x : Slot) (m : Fin 4) : (s.setSlot i x).commandSlot m = s.commandSlot m := rfl
@[simp] theorem setEntry_commandSlot (i : SlotNo) (e : Entry) (m : Fin 4) : (s.setEntry i e).commandSlot m = s.commandSlot m := rfl
@[simp] theorem freeSlot_commandSlot (i : SlotNo) (m : Fin 4) : (freeSlot i s).commandSlot m = s.commandSlot m := rfl
@[simp] theorem setContext_commandSlot (c : Fin 6) (t : TrunkContext) (m : Fin 4) : (s.setContext c t).commandSlot m = s.commandSlot m := rfl
@[simp] theorem clearContext_commandSlot (c : Fin 6) (m : Fin 4) : (clearContext c s).commandSlot m = s.commandSlot m := rfl
@[simp] theorem buildReply_commandSlot (c : Fin 6) (r : Reply) (m : Fin 4) : (buildReply c r s).commandSlot m = s.commandSlot m := rfl
@[simp] theorem recordGrant_commandSlot (g : GrantClass) (m : Fin 4) : (recordGrant g s).commandSlot m = s.commandSlot m := rfl
@[simp] theorem setFlag_commandSlot (f : Flag) (m : Fin 4) : (setFlag f s).commandSlot m = s.commandSlot m := rfl
@[simp] theorem setTrunkCause_commandSlot (c : Cause) (m : Fin 4) : (setTrunkCause c s).commandSlot m = s.commandSlot m := rfl
@[simp] theorem takeCommand_commandSlot (m : Fin 4) : (takeCommand s).commandSlot m = s.commandSlot m := rfl
@[simp] theorem takeRequest_commandSlot (m : Fin 4) : (takeRequest s).commandSlot m = s.commandSlot m := rfl
@[simp] theorem writeFlags_commandSlot (v : Byte) (m : Fin 4) : (writeFlags v s).commandSlot m = s.commandSlot m := rfl
@[simp] theorem writeCause_commandSlot (v : Byte) (m : Fin 4) : (writeCause v s).commandSlot m = s.commandSlot m := rfl
@[simp] theorem writeEnables_commandSlot (v : Byte) (m : Fin 4) : (writeEnables v s).commandSlot m = s.commandSlot m := rfl

end Sys2Proof.Laws
end

