-- ==== Sys2Proof/Laws/Access.lean ====
section
/-! SUPPORT. Reading back what was written: slots of the directory, search contexts, trunk contexts, command slots, bytes of
a command slot. -/

namespace Sys2Proof.Laws

open Sys2Proof.Machine

variable (s : State)

/-- An array with one item replaced, read at a place of bounded type. -/
theorem vector_get_set {α : Type} {n : Nat} (v : Vector α n) (i j : Fin n) (x : α) :
    (v.set i x)[j] = if i = j then x else v[j] := by
  simp only [Fin.getElem_fin, Vector.getElem_set, Fin.ext_iff]

/-- Every item of `mapAll f v` is `f` of the item. -/
@[simp] theorem mapAll_get {α β : Type} {n : Nat} (f : α → β) (v : Vector α n) (i : Fin n) :
    (mapAll f v)[i] = f v[i] := by
  simp [mapAll]

/-! ## Slots of the directory -/

@[simp] theorem slot_setSlot_self (i : SlotNo) (x : Slot) : (s.setSlot i x).slot i = x := by
  simp [State.slot]

theorem slot_setSlot_of_ne {i j : SlotNo} (x : Slot) (h : i ≠ j) : (s.setSlot i x).slot j = s.slot j := by
  simp [State.slot, Fin.val_ne_of_ne h]

@[simp] theorem slot_setEntry_self (i : SlotNo) (e : Entry) :
    (s.setEntry i e).slot i = { s.slot i with entry := some e } := by
  simp [State.setEntry]

theorem slot_setEntry_of_ne {i j : SlotNo} (e : Entry) (h : i ≠ j) : (s.setEntry i e).slot j = s.slot j := by
  simp [State.setEntry, slot_setSlot_of_ne s _ h]

@[simp] theorem entryOf_setEntry_self (i : SlotNo) (e : Entry) : (s.setEntry i e).entryOf i = some e := by
  simp [State.entryOf]

theorem entryOf_setEntry_of_ne {i j : SlotNo} (e : Entry) (h : i ≠ j) : (s.setEntry i e).entryOf j = s.entryOf j := by
  simp [State.entryOf, slot_setEntry_of_ne s e h]

theorem entryOf_setEntry (i j : SlotNo) (e : Entry) :
    (s.setEntry i e).entryOf j = if i = j then some e else s.entryOf j := by
  by_cases h : i = j
  · subst h; simp
  · simp [h, entryOf_setEntry_of_ne s e h]

/-- Writing an entry keeps every generation (R4). -/
@[simp] theorem generation_setEntry (i j : SlotNo) (e : Entry) :
    ((s.setEntry i e).slot j).generation = (s.slot j).generation := by
  by_cases h : i = j
  · subst h; simp
  · simp [slot_setEntry_of_ne s e h]

@[simp] theorem handleOf_setEntry (i j : SlotNo) (e : Entry) : (s.setEntry i e).handleOf j = s.handleOf j := by
  simp [State.handleOf]

@[simp] theorem slot_freeSlot_self (i : SlotNo) : (freeSlot i s).slot i = { s.slot i with entry := none } := by
  simp [State.slot]

theorem slot_freeSlot_of_ne {i j : SlotNo} (h : i ≠ j) : (freeSlot i s).slot j = s.slot j := by
  simp [State.slot, Fin.val_ne_of_ne h]

theorem entryOf_freeSlot (i j : SlotNo) : (freeSlot i s).entryOf j = if i = j then none else s.entryOf j := by
  by_cases h : i = j
  · subst h; simp [State.entryOf]
  · simp [State.entryOf, slot_freeSlot_of_ne s h, h]

@[simp] theorem entryOf_freeSlot_self (i : SlotNo) : (freeSlot i s).entryOf i = none := by simp [entryOf_freeSlot]

/-- A freed slot keeps its generation (R22). -/
@[simp] theorem generation_freeSlot (i j : SlotNo) : ((freeSlot i s).slot j).generation = (s.slot j).generation := by
  by_cases h : i = j
  · subst h; simp
  · simp [slot_freeSlot_of_ne s h]

/-- A slot in a state whose directory was replaced. -/
theorem slot_setDir (d : Directory) (i : SlotNo) : (s.setDir d).slot i = d.slots[i] := rfl

/-! ## Contexts and command slots -/

theorem searchContext_setSearch (k m : Fin 4) (x : SearchContext) :
    (s.setSearch k x).searchContext m = if k = m then x else s.searchContext m := by
  simp only [State.searchContext, setSearch_search, vector_get_set]

@[simp] theorem searchContext_setSearch_self (k : Fin 4) (x : SearchContext) : (s.setSearch k x).searchContext k = x := by
  simp [searchContext_setSearch]

theorem context_setContext (c d : Fin 6) (t : TrunkContext) :
    (s.setContext c t).context d = if c = d then t else s.context d := by
  simp only [State.context, setContext_trunk, vector_get_set]

@[simp] theorem context_setContext_self (c : Fin 6) (t : TrunkContext) : (s.setContext c t).context c = t := by
  simp [context_setContext]

theorem context_clearContext (c d : Fin 6) :
    (clearContext c s).context d = if c = d then TrunkContext.idleWith (s.context c).ticket else s.context d := by
  simp only [State.context, clearContext_trunk, vector_get_set]

theorem context_buildReply (c d : Fin 6) (r : Reply) :
    (buildReply c r s).context d =
      if c = d then { s.context c with state := .replyReady, linked := none, deadline := none, reply := some r }
      else s.context d := by
  simp only [State.context, buildReply_trunk, vector_get_set]

@[simp] theorem context_takeRequest (c : Fin 6) : (takeRequest s).context c = s.context c := rfl

theorem commandSlot_setCommandSlot (n m : Fin 4) (c : CommandSlot) :
    (s.setCommandSlot n c).commandSlot m = if n = m then c else s.commandSlot m := by
  simp only [State.commandSlot, setCommandSlot_port, vector_get_set]

@[simp] theorem commandSlot_setCommandSlot_self (n : Fin 4) (c : CommandSlot) :
    (s.setCommandSlot n c).commandSlot n = c := by
  simp [commandSlot_setCommandSlot]

@[simp] theorem commandSlot_takeCommand (n : Fin 4) : (takeCommand s).commandSlot n = s.commandSlot n := rfl

/-! ## Bytes of a command slot -/

theorem byte_setByte (c : CommandSlot) (o p : Fin 48) (v : Byte) :
    (c.setByte o v).byte p = if o = p then v else c.byte p := by
  simp only [CommandSlot.byte, CommandSlot.setByte, vector_get_set]

@[simp] theorem byte_setByte_self (c : CommandSlot) (o : Fin 48) (v : Byte) : (c.setByte o v).byte o = v := by
  simp [byte_setByte]

@[simp] theorem state_setByte (c : CommandSlot) (o : Fin 48) (v : Byte) : (c.setByte o v).state = c.state := rfl

/-- A byte that no output names keeps its value. -/
theorem byte_write_of_not_mem (outputs : List (Fin 48 × Byte)) (c : CommandSlot) (o : Fin 48)
    (h : ∀ p ∈ outputs, p.1 ≠ o) : (c.write outputs).byte o = c.byte o := by
  induction outputs generalizing c with
  | nil => rfl
  | cons p rest ih =>
    have hrest := ih (c.setByte p.1 p.2) (fun q hq => h q (List.mem_cons_of_mem _ hq))
    have hp : p.1 ≠ o := h p List.mem_cons_self
    simpa [CommandSlot.write, byte_setByte, hp] using hrest

/-- Where no offset is named twice, every output is found in the slot. -/
theorem byte_write_of_mem (outputs : List (Fin 48 × Byte)) (c : CommandSlot)
    (once : (outputs.map (fun p => p.1)).Nodup) (p : Fin 48 × Byte) (h : p ∈ outputs) :
    (c.write outputs).byte p.1 = p.2 := by
  induction outputs generalizing c with
  | nil => cases h
  | cons q rest ih =>
    simp only [List.map_cons, List.nodup_cons, List.mem_map, not_exists, not_and] at once
    rcases List.mem_cons.mp h with rfl | hr
    · have := byte_write_of_not_mem rest (c.setByte p.1 p.2) p.1 (fun r hr => once.1 r hr)
      simpa [CommandSlot.write] using this
    · simpa [CommandSlot.write] using ih (c.setByte q.1 q.2) once.2 hr

end Sys2Proof.Laws
end

