-- ==== Sys2Proof/Laws/Marks.lean ====
section
/-! SUPPORT. What adding a mark, capturing a wake event, allocating a slot and retiring an entry can do. -/

namespace Sys2Proof.Laws

open Sys2Proof.Machine

variable (s : State)

/-! ## Wake events (R178) -/

/-- Without wake enable, or with a record held, a wake event has no effect. -/
theorem wakeEvent_of_not (r : WakeRecord) (h : ¬(s.doze.wakeEnable = true ∧ s.doze.record = none)) :
    wakeEvent r s = s := by
  simp [wakeEvent, h]

/-- A captured wake event sets the record and WAKE. -/
theorem wakeEvent_of (r : WakeRecord) (h : s.doze.wakeEnable = true ∧ s.doze.record = none) :
    wakeEvent r s = setFlag .wake (s.setDoze { s.doze with record := some r }) := by
  simp [wakeEvent, h, State.setDoze]

/-- What a wake event leaves alone: every block but the notification unit and doze control. -/
theorem wakeEvent_blocks (r : WakeRecord) :
    (wakeEvent r s).pending = s.pending ∧ (wakeEvent r s).dir = s.dir ∧ (wakeEvent r s).arb = s.arb
      ∧ (wakeEvent r s).search = s.search ∧ (wakeEvent r s).time = s.time ∧ (wakeEvent r s).link = s.link
      ∧ (wakeEvent r s).trunk = s.trunk ∧ (wakeEvent r s).port = s.port ∧ (wakeEvent r s).loader = s.loader
      ∧ (wakeEvent r s).params = s.params := by
  by_cases h : s.doze.wakeEnable = true ∧ s.doze.record = none
  · simp [wakeEvent_of s r h]
  · simp [wakeEvent_of_not s r h]

/-! ## Marks (R161, R162) -/

/-- With WATCH off, or with the reason held, nothing changes. -/
theorem addMark_of_not (i : SlotNo) (m : Mark) (e : Entry) (he : s.entryOf i = some e)
    (h : ¬(e.watch = true ∧ e.marks.has m = false)) : addMark i m s = s := by
  simp [addMark, he, h]

/-- A new mark joins the set and sets MARK; on an entry with WAKE on, in DOZE, it is a wake event. -/
theorem addMark_of (i : SlotNo) (m : Mark) (e : Entry) (he : s.entryOf i = some e)
    (h : e.watch = true ∧ e.marks.has m = false) :
    addMark i m s =
      if e.wake = true ∧ s.doze.host = .doze then
        wakeEvent (.mark (s.handleOf i)) (setFlag .mark (s.setEntry i { e with marks := e.marks.add m }))
      else setFlag .mark (s.setEntry i { e with marks := e.marks.add m }) := by
  simp [addMark, he, h]

/-- What adding a mark leaves alone: every block but the directory, the notification unit and doze control. -/
theorem addMark_blocks (i : SlotNo) (m : Mark) :
    (addMark i m s).pending = s.pending ∧ (addMark i m s).arb = s.arb ∧ (addMark i m s).search = s.search
      ∧ (addMark i m s).time = s.time ∧ (addMark i m s).link = s.link ∧ (addMark i m s).trunk = s.trunk
      ∧ (addMark i m s).port = s.port ∧ (addMark i m s).loader = s.loader ∧ (addMark i m s).params = s.params := by
  unfold addMark
  split
  · simp
  · rename_i e he
    by_cases h : e.watch = true ∧ e.marks.has m = false
    · by_cases w : e.wake = true ∧ s.doze.host = .doze
      · simp [h, w, wakeEvent_blocks]
      · simp [h, w]
    · simp [h]

/-- Adding a mark touches one entry, and of it the marks; the free list, the cursor and the generations stay. -/
theorem addMark_dir (i : SlotNo) (m : Mark) :
    (addMark i m s).dir.free = s.dir.free ∧ (addMark i m s).dir.collectCursor = s.dir.collectCursor
      ∧ (∀ j, ((addMark i m s).slot j).generation = (s.slot j).generation)
      ∧ (∀ j, j ≠ i → (addMark i m s).slot j = s.slot j)
      ∧ (addMark i m s).entryOf i = (s.entryOf i).map (fun e =>
          if e.watch = true ∧ e.marks.has m = false then { e with marks := e.marks.add m } else e) := by
  unfold addMark
  split
  · rename_i he
    simp [he]
  · rename_i e he
    by_cases h : e.watch = true ∧ e.marks.has m = false
    · have hdir : ∀ w, (wakeEvent w (setFlag .mark (s.setEntry i { e with marks := e.marks.add m }))).dir
          = (s.setEntry i { e with marks := e.marks.add m }).dir := fun w => by simp [wakeEvent_blocks]
      have key : ∀ t : State, t.dir = (s.setEntry i { e with marks := e.marks.add m }).dir →
          t.dir.free = s.dir.free ∧ t.dir.collectCursor = s.dir.collectCursor
            ∧ (∀ j, (t.slot j).generation = (s.slot j).generation) ∧ (∀ j, j ≠ i → t.slot j = s.slot j)
            ∧ t.entryOf i = some { e with marks := e.marks.add m } := by
        intro t ht
        have hs : ∀ j, t.slot j = (s.setEntry i { e with marks := e.marks.add m }).slot j := fun j => by
          simp only [State.slot, ht]
        refine ⟨by simp [ht], by simp [ht], fun j => by simp [hs], fun j hj => ?_, ?_⟩
        · rw [hs, slot_setEntry_of_ne s _ (Ne.symm hj)]
        · simp [State.entryOf, hs]
      by_cases w : e.wake = true ∧ s.doze.host = .doze
      · simpa [h, w, he] using key _ (hdir _)
      · simpa [h, w, he] using key _ rfl
    · simp [h, he]

/-! ## Allocation (R21) -/

/-- With a free list that is not empty, its head is taken, its generation advanced. -/
theorem allocate_of_cons (e : Entry) (i : SlotNo) (rest : List SlotNo) (h : s.dir.free = i :: rest) :
    allocate e s = some (s.setDir { s.dir with
      slots := s.dir.slots.set i { generation := nextGeneration (s.slot i).generation, entry := some e },
      free := rest }, i) := by
  simp [allocate, h]

/-- With an empty free list nothing is allocated. -/
theorem allocate_of_nil (e : Entry) (h : s.dir.free = []) : allocate e s = none := by simp [allocate, h]

/-- What an allocation leaves: the entry in the slot taken, under the next generation; every other slot as it was; the
rest of the free list; no other block changed. -/
theorem allocate_spec (e : Entry) (t : State) (i : SlotNo) (h : allocate e s = some (t, i)) :
    s.dir.free = i :: t.dir.free
      ∧ t.slot i = { generation := nextGeneration (s.slot i).generation, entry := some e }
      ∧ (∀ j, j ≠ i → t.slot j = s.slot j) ∧ t.dir.collectCursor = s.dir.collectCursor
      ∧ t = s.setDir t.dir := by
  rcases hf : s.dir.free with _ | ⟨k, rest⟩
  · simp [allocate_of_nil s e hf] at h
  · rw [allocate_of_cons s e k rest hf] at h
    simp only [Option.some.injEq, Prod.mk.injEq] at h
    obtain ⟨rfl, rfl⟩ := h
    refine ⟨by simp, by simp [State.slot], fun j hj => ?_, by simp, by simp [State.setDir]⟩
    simp [State.slot, Fin.val_ne_of_ne (Ne.symm hj)]

/-! ## Retirement (R45) -/

/-- With WATCH off a retirement frees the slot. -/
theorem retireSide_of_unwatched (i : SlotNo) (e : Entry) (h : e.watch = false) : retireSide i e s = freeSlot i s := by
  simp [retireSide, h]

/-- With WATCH on a retirement leaves a SPENT entry without a lock, marked RETIRED. -/
theorem retireSide_of_watched (i : SlotNo) (e : Entry) (h : e.watch = true) :
    retireSide i e s = addMark i .retired (s.setEntry i { e with lock := none, life := .spent }) := by
  simp [retireSide, h]

/-- What a retirement leaves alone: every block but the directory, the notification unit and doze control. -/
theorem retireSide_blocks (i : SlotNo) (e : Entry) :
    (retireSide i e s).pending = s.pending ∧ (retireSide i e s).arb = s.arb ∧ (retireSide i e s).search = s.search
      ∧ (retireSide i e s).time = s.time ∧ (retireSide i e s).link = s.link ∧ (retireSide i e s).trunk = s.trunk
      ∧ (retireSide i e s).port = s.port ∧ (retireSide i e s).loader = s.loader
      ∧ (retireSide i e s).params = s.params := by
  by_cases h : e.watch = true
  · simp [retireSide_of_watched s i e h, addMark_blocks]
  · simp [retireSide_of_unwatched s i e (by simpa using h)]

/-- A retirement touches one slot, and keeps its generation. -/
theorem retireSide_slots (i : SlotNo) (e : Entry) :
    (∀ j, ((retireSide i e s).slot j).generation = (s.slot j).generation)
      ∧ (∀ j, j ≠ i → (retireSide i e s).slot j = s.slot j) := by
  by_cases h : e.watch = true
  · rw [retireSide_of_watched s i e h]
    have d := addMark_dir (s.setEntry i { e with lock := none, life := .spent }) i .retired
    exact ⟨fun j => by simpa using d.2.2.1 j,
      fun j hj => (d.2.2.2.1 j hj).trans (slot_setEntry_of_ne s _ (Ne.symm hj))⟩
  · rw [retireSide_of_unwatched s i e (by simpa using h)]
    exact ⟨fun j => by simp, fun j hj => slot_freeSlot_of_ne s (Ne.symm hj)⟩

end Sys2Proof.Laws
end

