-- ==== Sys2Proof/Laws/Settle.lean ====
section
/-! SUPPORT. The due consequences of ticks: after `settle` nothing is due, and where nothing is due `settle` changes
nothing. -/

namespace Sys2Proof.Laws

open Sys2Proof.Machine

variable (s : State)

/-! ## What ending a wait does -/

/-- Ending a wait leaves every block but the trunk unit. -/
theorem endWait_blocks (code : ResultCode) (c : Fin 6) : endWait code c s = s.setTrunk (endWait code c s).trunk := rfl

/-- Ending waits in a list of contexts leaves every block but the trunk unit. -/
theorem endWaitsIn_blocks (code : ResultCode) (ends : TrunkContext → Bool) (l : List (Fin 6)) (s : State) :
    l.foldl (fun s c => if ends (s.context c) then endWait code c s else s) s
      = s.setTrunk (l.foldl (fun s c => if ends (s.context c) then endWait code c s else s) s).trunk := by
  induction l generalizing s with
  | nil => rfl
  | cons c rest ih =>
    simp only [List.foldl_cons]
    rw [ih]
    split <;> rfl

theorem endWaits_blocks (code : ResultCode) (ends : TrunkContext → Bool) :
    endWaits code ends s = s.setTrunk (endWaits code ends s).trunk := endWaitsIn_blocks code ends _ s

theorem answerDeferred_blocks : answerDeferred s = s.setTrunk (answerDeferred s).trunk := endWaits_blocks s _ _

/-- The reply that ends a wait (R134, R137). -/
def waitReply (code : ResultCode) (t : TrunkContext) : Reply :=
  seekReply code (t.nextCursor.getD 0) (t.results.filter (fun i => !i.guarded))

/-- A context whose wait has ended. -/
def waitEnded (code : ResultCode) (t : TrunkContext) : TrunkContext :=
  { t with state := .replyReady, linked := none, deadline := none, reply := some (waitReply code t) }

theorem context_endWait (code : ResultCode) (c d : Fin 6) :
    (endWait code c s).context d = if c = d then waitEnded code (s.context c) else s.context d := by
  simp [endWait, context_buildReply, waitEnded, waitReply]

theorem endWaitsIn_spec (code : ResultCode) (ends : TrunkContext → Bool) (l : List (Fin 6)) (once : l.Nodup) (s : State) :
    let t := l.foldl (fun s c => if ends (s.context c) then endWait code c s else s) s
    (∀ d, t.context d = if d ∈ l ∧ ends (s.context d) = true then waitEnded code (s.context d) else s.context d)
      ∧ t.trunk.ready = s.trunk.ready ++ l.filter (fun d => ends (s.context d))
      ∧ t.trunk.received = s.trunk.received := by
  induction l generalizing s with
  | nil => simp
  | cons c rest ih =>
    simp only [List.nodup_cons] at once
    simp only [List.foldl_cons]
    have h := ih once.2 (if ends (s.context c) then endWait code c s else s)
    have other : ∀ d, d ∈ rest → (if ends (s.context c) then endWait code c s else s).context d = s.context d := by
      intro d hd
      have hne : c ≠ d := fun e => once.1 (e ▸ hd)
      split
      · simp [context_endWait, hne]
      · rfl
    refine ⟨fun d => ?_, ?_, ?_⟩
    · rw [h.1 d]
      by_cases hd : d ∈ rest
      · simp [other d hd, hd]
      · by_cases hc : c = d
        · subst hc
          by_cases he : ends (s.context c) = true
          · simp [hd, he, context_endWait]
          · simp [hd, he]
        · by_cases he : ends (s.context c) = true
          · simp [hd, he, context_endWait, hc, Ne.symm hc]
          · simp [hd, he, Ne.symm hc]
    · rw [h.2.1]
      have hf : rest.filter (fun d => ends ((if ends (s.context c) then endWait code c s else s).context d))
          = rest.filter (fun d => ends (s.context d)) :=
        List.filter_congr (fun d hd => by rw [other d hd])
      rw [hf]
      by_cases he : ends (s.context c) = true
      · simp [he, endWait]
      · simp [he]
    · rw [h.2.2]
      split <;> simp [endWait]

/-- Every context that meets the condition has its wait ended; the ready queue grows by them, in ascending number. -/
theorem endWaits_spec (code : ResultCode) (ends : TrunkContext → Bool) :
    (∀ d, (endWaits code ends s).context d = if ends (s.context d) = true then waitEnded code (s.context d) else s.context d)
      ∧ (endWaits code ends s).trunk.ready = s.trunk.ready ++ (List.finRange 6).filter (fun d => ends (s.context d))
      ∧ (endWaits code ends s).trunk.received = s.trunk.received := by
  have h := endWaitsIn_spec code ends (List.finRange 6) (List.nodup_finRange 6) s
  exact ⟨fun d => by simpa [endWaits] using h.1 d, h.2.1, h.2.2⟩

/-! ## Settled states -/

/-- The five conditions of `settled`. -/
theorem settled_iff : s.settled = true ↔
    s.faultDue = false ∧ s.releaseDue = false ∧ s.time.tenMsDue = false ∧ s.expiryDue = false
      ∧ s.time.secondDue = false := by
  simp [State.settled, and_assoc]

/-- Where nothing is due, `settle` changes nothing. -/
theorem settle_of_settled (h : s.settled = true) : settle s = s := by
  obtain ⟨h1, h2, h3, h4, h5⟩ := (settled_iff s).mp h
  simp [settle, settleFault, settleRelease, settleTenMs, settleExpiry, settleSecond, h1, h2, h3, h4, h5]

/-- No context of a state is expired. -/
theorem expiryDue_eq_false_iff : s.expiryDue = false ↔ ∀ c, (s.context c).expired = false := by
  simp [State.expiryDue, List.any_eq_false]

theorem settleFault_due : (settleFault s).faultDue = false := by
  unfold settleFault
  split
  · simp [enterFault, State.faultDue]
  · simp_all

theorem settleRelease_due (h : s.faultDue = false) :
    (settleRelease s).faultDue = false ∧ (settleRelease s).releaseDue = false := by
  unfold settleRelease
  split
  · simp [leaveFault, State.faultDue, State.releaseDue]
  · simp_all

theorem settleTenMs_time : (settleTenMs s).time.tenMsDue = false ∧ (settleTenMs s).link = s.link := by
  unfold settleTenMs
  split
  · simp [tenMsEffect]
  · simp_all

theorem settleExpiry_due : (settleExpiry s).expiryDue = false ∧ (settleExpiry s).link = s.link
    ∧ (settleExpiry s).time = s.time := by
  unfold settleExpiry
  split
  · refine ⟨?_, ?_, ?_⟩
    · rw [expiryDue_eq_false_iff]
      intro c
      rw [expireDeadlines, (endWaits_spec s .partial_ TrunkContext.expired).1 c]
      split
      · simp [waitEnded, TrunkContext.expired]
      · simp_all
    · exact (congrArg State.link (endWaits_blocks s _ _)).trans (setTrunk_link s _)
    · exact (congrArg State.time (endWaits_blocks s _ _)).trans (setTrunk_time s _)
  · simp_all

theorem settleSecond_due : (settleSecond s).time.secondDue = false ∧ (settleSecond s).link = s.link
    ∧ (settleSecond s).trunk = s.trunk ∧ (settleSecond s).time.tenMsDue = s.time.tenMsDue := by
  unfold settleSecond
  split
  · unfold secondEffect
    split <;> simp
  · simp_all

/-- After `settle` nothing is due. -/
theorem settled_settle : (settle s).settled = true := by
  rw [settled_iff]
  unfold settle
  have f := settleFault_due s
  generalize settleFault s = a at f ⊢
  have r := settleRelease_due a f
  generalize settleRelease a = b at r ⊢
  have t := settleTenMs_time b
  generalize settleTenMs b = c at t ⊢
  have e := settleExpiry_due c
  generalize settleExpiry c = d at e ⊢
  have x := settleSecond_due d
  have hc : (settleSecond d).link = b.link := by rw [x.2.1, e.2.1, t.2]
  refine ⟨?_, ?_, ?_, ?_, x.1⟩
  · have := r.1; simp only [State.faultDue, hc] at this ⊢; exact this
  · have := r.2; simp only [State.releaseDue, hc] at this ⊢; exact this
  · rw [x.2.2.2, e.2.2, t.1]
  · have := e.1
    rw [expiryDue_eq_false_iff] at this ⊢
    intro c'
    have hcc := this c'
    simp only [State.context, x.2.2.1] at hcc ⊢
    exact hcc

/-- `settle` twice is `settle` once. -/
@[simp] theorem settle_settle : settle (settle s) = settle s := settle_of_settled _ (settled_settle s)

end Sys2Proof.Laws
end

