-- ==== Sys2Proof/Laws/Grants.lean ====
section
/-! SUPPORT. What the shared parts of a grant do, in the words of Safety.lean: flags, a completed command, a built reply. -/

namespace Sys2Proof.Laws

open Sys2Proof.Machine

variable (s : State)

/-! ## Flags (R168) -/

/-- Setting a flag sets that flag alone. -/
theorem flag_setFlag (f g : Flag) : (setFlag f s).flag g = (s.flag g || decide (g = f)) := by
  cases f <;> cases g <;> simp [State.flag, setFlag, Flag.bit, bitMask]

theorem setFlag_setsFlags (f : Flag) : setsFlags [f] s (setFlag f s) := by
  refine ⟨fun g => ?_, rfl, rfl⟩
  simp [flag_setFlag]

/-- Flags set in two events, one after the other. -/
theorem setsFlags_trans {a b : List Flag} {s t u : State} (h : setsFlags a s t) (k : setsFlags b t u) :
    setsFlags (a ++ b) s u := by
  refine ⟨fun f => ?_, k.2.1.trans h.2.1, k.2.2.trans h.2.2⟩
  rw [k.1 f, h.1 f]
  simp [Bool.or_assoc, List.mem_append]

/-- The same notification unit: no flag set. -/
theorem setsFlags_of_same {s t : State} (h : t.notify = s.notify) : setsFlags [] s t := by
  refine ⟨fun f => ?_, by rw [h], by rw [h]⟩
  simp [State.flag, h]

/-- Only which flags are in the list matters. -/
theorem setsFlags_congr {a b : List Flag} {s t : State} (h : setsFlags a s t) (e : ∀ f, f ∈ a ↔ f ∈ b) :
    setsFlags b s t := by
  refine ⟨fun f => ?_, h.2⟩
  rw [h.1 f]
  simp [e f]

/-! ## Command grants -/

/-- Where a Command grant serves slot `n`, it stands at the head of the post-order queue. -/
theorem postOrder_of_commandHead {n : Fin 4} (h : s.commandHead = some n) :
    s.port.postOrder = n :: s.port.postOrder.tail := by
  unfold State.commandHead at h
  split at h
  · revert h
    cases s.port.postOrder with
    | nil => simp
    | cons a l => simp
  · simp at h

/-- The row of a command that the slot at the head holds performs it and finishes the slot. -/
theorem commandGrant_of_serves {n : Fin 4} {code : Byte} (accepts : Byte → Bool) (perform : CommandSlot → State → Completion)
    (h : servesCommand n code s) (ha : accepts code = true) :
    commandGrant accepts perform (settle s) = finishCommand n (perform (s.commandSlot n) (takeCommand s)) := by
  obtain ⟨hs, hn, hc⟩ := h
  rw [settle_of_settled s hs]
  simp [commandGrant, hn, hc, ha]

/-- A finished slot: DONE, its result and outputs written, every other byte and slot kept (R151). -/
theorem finishCommand_completes {n : Fin 4} (r : Completion) (h : s.commandHead = some n)
    (port : r.state.port = (takeCommand s).port) (arb : r.state.arb = (takeCommand s).arb)
    (once : (r.outputs.map (fun p => p.1)).Nodup) (free : ∀ p ∈ r.outputs, p.1 ≠ Offset.result) :
    completesSlot n r.code r.outputs s (finishCommand n r) := by
  have hslot : ∀ m, r.state.commandSlot m = s.commandSlot m := by
    intro m
    simp only [State.commandSlot, port]
    rfl
  refine ⟨?_, ?_, ?_, ?_, ?_, ?_, ?_, ?_⟩
  · simp [finishCommand, setFlag, State.commandSlot, State.setCommandSlot, State.setPort]
  · simp [finishCommand, setFlag, State.commandSlot, State.setCommandSlot, State.setPort, CommandSlot.byte,
      CommandSlot.setByte]
  · intro p hp
    have := byte_write_of_mem r.outputs (r.state.commandSlot n) once p hp
    have hne := free p hp
    have e : ((finishCommand n r).commandSlot n).byte p.1
        = (((r.state.commandSlot n).write r.outputs).setByte Offset.result r.code.toByte).byte p.1 := by
      simp [finishCommand, setFlag, State.commandSlot, State.setCommandSlot, State.setPort, CommandSlot.byte,
        CommandSlot.setByte]
    rw [e, byte_setByte, if_neg (Ne.symm hne), this]
  · intro o ho hno
    have e : ((finishCommand n r).commandSlot n).byte o
        = (((r.state.commandSlot n).write r.outputs).setByte Offset.result r.code.toByte).byte o := by
      simp [finishCommand, setFlag, State.commandSlot, State.setCommandSlot, State.setPort, CommandSlot.byte,
        CommandSlot.setByte]
    rw [e, byte_setByte, if_neg (Ne.symm ho), byte_write_of_not_mem _ _ _ hno, hslot]
  · intro m hm
    have e : (finishCommand n r).commandSlot m = r.state.commandSlot m := by
      simp [finishCommand, setFlag, State.commandSlot, State.setCommandSlot, State.setPort,
        Fin.val_ne_of_ne (Ne.symm hm)]
    rw [e, hslot]
  · have e : (finishCommand n r).port.postOrder = r.state.port.postOrder := rfl
    rw [e, port]
    exact postOrder_of_commandHead s h
  · have e : (finishCommand n r).port.hrstLow = r.state.port.hrstLow := rfl
    have x : (finishCommand n r).port.transaction = r.state.port.transaction := rfl
    rw [keepsPins, e, x, port]
    exact ⟨rfl, rfl⟩
  · have e : (finishCommand n r).arb = r.state.arb := rfl
    rw [e, arb]
    rfl

/-- A finished slot sets CMD beside the flags the command sets. -/
theorem finishCommand_setsFlags {set : List Flag} (n : Fin 4) (r : Completion) (h : setsFlags set s r.state) :
    setsFlags (Flag.cmd :: set) s (finishCommand n r) := by
  have hc := setFlag_setsFlags (r.state.setCommandSlot n
    { ((r.state.commandSlot n).write r.outputs).setByte Offset.result r.code.toByte with state := .done }) .cmd
  have hs : setsFlags [] r.state (r.state.setCommandSlot n
    { ((r.state.commandSlot n).write r.outputs).setByte Offset.result r.code.toByte with state := .done }) :=
    setsFlags_of_same rfl
  exact setsFlags_congr (setsFlags_trans (setsFlags_trans h hs) hc) (fun f => by simp [or_comm])

/-- A finished slot changes the blocks the command changed, the port and the notification unit. -/
theorem finishCommand_keeps {changed : List Block} (n : Fin 4) (r : Completion) (h : keepsBut changed s r.state)
    (hp : Block.port ∈ changed) (hn : Block.notify ∈ changed) : keepsBut changed s (finishCommand n r) := by
  refine ⟨h.1, fun b hb => ?_⟩
  have := h.2 b hb
  cases b <;> first | exact this | exact absurd hp hb | exact absurd hn hb

/-- What a command does whose work leaves the notification unit, and the port and the arbiter as the grant left them. -/
theorem finishCommand_completesWith {n : Fin 4} {changed : List Block} (r : Completion) (h : s.commandHead = some n)
    (port : r.state.port = (takeCommand s).port) (arb : r.state.arb = (takeCommand s).arb)
    (notify : r.state.notify = s.notify) (keep : keepsBut (changed ++ [.arb, .port, .notify]) s r.state)
    (once : (r.outputs.map (fun p => p.1)).Nodup) (free : ∀ p ∈ r.outputs, p.1 ≠ Offset.result) :
    completesWith n r.code r.outputs changed s (finishCommand n r) :=
  ⟨finishCommand_completes s r h port arb once free,
    finishCommand_keeps s n r keep (by simp) (by simp),
    finishCommand_setsFlags s n r (setsFlags_of_same notify)⟩

/-- A command that answers and changes nothing. -/
theorem answerOnly_completesWith {n : Fin 4} (code : ResultCode) (outputs : List (Fin 48 × Byte))
    (h : s.commandHead = some n) (once : (outputs.map (fun p => p.1)).Nodup)
    (free : ∀ p ∈ outputs, p.1 ≠ Offset.result) (changed : List Block) :
    completesWith n code outputs changed s (finishCommand n (answerOnly (takeCommand s) code outputs)) := by
  refine finishCommand_completesWith s (answerOnly (takeCommand s) code outputs) h rfl rfl rfl ⟨rfl, fun b hb => ?_⟩ once free
  simp only [List.mem_append, not_or] at hb
  cases b <;> first | rfl | exact absurd hb.2 (by simp)

/-! ## Trunk grants -/

/-- Where a Trunk grant serves context `c`, it stands at the head of the received queue. -/
theorem received_of_trunkHead {c : Fin 6} (h : s.trunkHead = some c) :
    s.trunk.received = c :: s.trunk.received.tail := by
  unfold State.trunkHead at h
  split at h
  · revert h
    cases s.trunk.received with
    | nil => simp
    | cons a l => simp
  · simp at h

/-- The row of a request that the context at the head holds serves it. -/
theorem trunkGrant_of_serves {c : Fin 6} {node kind : Byte} {payload : List Byte}
    (select : Option Request → Option (Fin 6 → State → State)) (serve : Fin 6 → State → State)
    (h : servesRequest c node kind payload s) (hs : select (parseRequest kind payload) = some serve) :
    trunkGrant select (settle s) = serve c (takeRequest s) := by
  obtain ⟨hset, hc, _, hk, hp⟩ := h
  rw [settle_of_settled s hset]
  simp [trunkGrant, hc, TrunkContext.request, hk, hp, hs]

/-- The requester that a served context names. -/
theorem node_of_serves {c : Fin 6} {node kind : Byte} {payload : List Byte} (h : servesRequest c node kind payload s) :
    ((takeRequest s).context c).node = node := by
  simp [TrunkContext.node, h.2.2.1]

/-- A built reply: the context REPLY_READY at the tail of the ready queue, every other context kept (R127, R129). -/
theorem buildReply_builds {c : Fin 6} (r : Reply) (t : State) (h : s.trunkHead = some c)
    (trunk : t.trunk = (takeRequest s).trunk) (arb : t.arb = (takeRequest s).arb) :
    buildsReply c r s (buildReply c r t) := by
  have hctx : ∀ d, t.context d = s.context d := by
    intro d
    simp only [State.context, trunk]
    rfl
  refine ⟨⟨?_, ?_, ?_⟩, ?_, ?_⟩
  · have e : (buildReply c r t).trunk.received = t.trunk.received := rfl
    rw [e, trunk]
    exact received_of_trunkHead s h
  · intro d hd
    rw [context_buildReply, if_neg (Ne.symm hd), hctx]
  · have e : (buildReply c r t).arb = t.arb := rfl
    rw [e, arb]
    rfl
  · rw [context_buildReply, if_pos rfl, hctx]
  · have e : (buildReply c r t).trunk.ready = t.trunk.ready ++ [c] := rfl
    rw [e, trunk]
    rfl

/-- A reply changes the trunk unit beside the blocks the request changed. -/
theorem buildReply_keeps {changed : List Block} (c : Fin 6) (r : Reply) (t : State) (h : keepsBut changed s t)
    (ht : Block.trunk ∈ changed) : keepsBut changed s (buildReply c r t) := by
  refine ⟨h.1, fun b hb => ?_⟩
  have := h.2 b hb
  cases b <;> first | exact this | exact absurd ht hb

/-- A request that is answered and changes nothing. -/
theorem buildReply_repliesWith {c : Fin 6} (r : Reply) (h : s.trunkHead = some c) (changed : List Block) :
    repliesWith c r changed s (buildReply c r (takeRequest s)) := by
  refine ⟨buildReply_builds s r _ h rfl rfl, buildReply_keeps s c r _ ⟨rfl, fun b hb => ?_⟩ (by simp)⟩
  simp only [List.mem_append, not_or] at hb
  cases b <;> first | rfl | exact absurd hb.2 (by simp)

end Sys2Proof.Laws
end

