-- ==== Sys2Proof/Laws/Frames.lean ====
section
/-! SUPPORT. The directory operations in the words of Safety.lean: an entry rewritten, a slot freed, a slot allocated, a
mark offered to an entry. -/

namespace Sys2Proof.Laws

open Sys2Proof.Machine

variable (s : State)

/-- An entry written with `setEntry` in a state of the same directory is rewritten. -/
theorem rewritesEntry_of_dir {i : SlotNo} {e : Entry} {t u : State} (hu : u.dir = s.dir)
    (h : t.dir = (u.setEntry i e).dir) : rewritesEntry i e s t := by
  have hs : ∀ j, t.slot j = (u.setEntry i e).slot j := fun j => by simp only [State.slot, h]
  have hus : ∀ j, u.slot j = s.slot j := fun j => by simp only [State.slot, hu]
  refine ⟨by simp [hs, hus], ⟨fun j hj => ?_, by simp [h, hu]⟩, by simp [h, hu]⟩
  rw [hs, slot_setEntry_of_ne u e (by simpa [eq_comm] using hj), hus]

/-- A slot freed with `freeSlot` in a state of the same directory goes FREE. -/
theorem freesSlot_of_dir {i : SlotNo} {t u : State} (hu : u.dir = s.dir) (h : t.dir = (freeSlot i u).dir) :
    freesSlot i s t := by
  have hs : ∀ j, t.slot j = (freeSlot i u).slot j := fun j => by simp only [State.slot, h]
  have hus : ∀ j, u.slot j = s.slot j := fun j => by simp only [State.slot, hu]
  refine ⟨by simp [hs, hus], ⟨fun j hj => ?_, by simp [h, hu]⟩, by simp [h, hu]⟩
  rw [hs, slot_freeSlot_of_ne u (by simpa [eq_comm] using hj), hus]

/-- What `allocate` answers in a state of the same directory allocates the slot. -/
theorem allocatesSlot_of_dir {i : SlotNo} {e : Entry} {t u v : State} (hu : u.dir = s.dir)
    (h : allocate e u = some (v, i)) (hd : t.dir = v.dir) : allocatesSlot i e s t := by
  obtain ⟨hf, hi, ho, hc, _⟩ := allocate_spec u e v i h
  have hs : ∀ j, t.slot j = v.slot j := fun j => by simp only [State.slot, hd]
  have hus : ∀ j, u.slot j = s.slot j := fun j => by simp only [State.slot, hu]
  refine ⟨by rw [hd, ← hf, hu], ⟨fun j hj => ?_, by rw [hd, hc, hu]⟩, by rw [hs, hi, hus]⟩
  rw [hs, ho j (by simpa using hj), hus]

/-- A mark offered with `addMark`: the entry takes it, and it has the effects of a new mark. -/
theorem addMark_effect (i : SlotNo) (m : Mark) (e : Entry) (he : s.entryOf i = some e) :
    rewritesEntry i (e.marked m) s (addMark i m s) ∧ marksAndWakes [] m e (s.handleOf i) s (addMark i m s) := by
  obtain ⟨hf, hc, hg, ho, hi⟩ := addMark_dir s i m
  have hkeep : e.marks.has m = true → e.marks.add m = e.marks := by
    cases m <;> simp [Marks.has, Marks.add] <;> (rcases e with ⟨_, _, _, _, _, _, _, _, _, _, _, ⟨_, _, _, _, _, _⟩⟩; simp_all)
  refine ⟨⟨?_, ⟨fun j hj => ho j (by simpa using hj), hc⟩, hf⟩, ?_⟩
  · have hi' : (addMark i m s).entryOf i = some (e.marked m) := by
      rw [hi, he, Option.map_some]
      congr 1
      unfold Entry.marked
      by_cases hw : e.watch = true
      · by_cases hm : e.marks.has m = true
        · rw [if_neg (by simp [hm]), if_pos hw, hkeep hm]
        · simp [hw, hm]
      · simp [hw]
    have hgi := hg i
    rcases hx : (addMark i m s).slot i with ⟨g, x⟩
    simp only [State.entryOf, hx] at hi' hgi
    rw [hi', hgi]
  · by_cases hn : e.watch = true ∧ e.marks.has m = false
    · rw [addMark_of s i m e he hn]
      by_cases hw : e.wake = true ∧ s.doze.host = .doze
      · rw [if_pos hw]
        by_cases hk : s.doze.wakeEnable = true ∧ s.doze.record = none
        · rw [wakeEvent_of _ _ (by simpa using hk)]
          refine ⟨?_, ?_⟩
          · refine ⟨fun f => ?_, rfl, rfl⟩
            rw [flag_setFlag]
            have h2 : ((setFlag Flag.mark (s.setEntry i { e with marks := e.marks.add m })).setDoze
              { s.doze with record := some (.mark (s.handleOf i)) }).flag f
                = (s.flag f || decide (f = .mark)) := flag_setFlag (s.setEntry i _) .mark f
            have h3 : (setFlag Flag.mark (s.setEntry i { e with marks := e.marks.add m })).doze = s.doze := rfl
            rw [h3, h2]
            simp [hn.1, hn.2, hw.1, hw.2, hk.1, hk.2, State.captures, Bool.or_assoc]
          · simp [hn.1, hn.2, hw.1, hw.2, hk.1, hk.2, State.captures]
        · rw [wakeEvent_of_not _ _ (by simpa using hk)]
          have hcap : s.captures = false := by
            simp only [State.captures, hw.2]
            simpa using hk
          refine ⟨?_, by simp [hcap]⟩
          exact setsFlags_congr (setsFlags_trans (setsFlags_of_same (s := s) rfl)
            (setFlag_setsFlags (s.setEntry i { e with marks := e.marks.add m }) .mark))
            (fun f => by simp [hn.1, hn.2, hcap])
      · rw [if_neg hw]
        have hcap : (e.wake && s.captures) = false := by
          simp only [State.captures]
          cases h1 : e.wake <;> simp_all
        refine ⟨?_, by simp [Bool.and_assoc, hcap]⟩
        exact setsFlags_congr (setsFlags_trans (setsFlags_of_same (s := s) rfl)
          (setFlag_setsFlags (s.setEntry i { e with marks := e.marks.add m }) .mark))
          (fun f => by simp [hn.1, hn.2, hcap])
    · rw [addMark_of_not s i m e he hn]
      have hf' : (e.watch && !e.marks.has m) = false := by
        cases h1 : e.watch <;> simp_all
      exact ⟨setsFlags_congr (setsFlags_of_same rfl) (fun f => by simp [hf']), by simp [hf']⟩

end Sys2Proof.Laws
end

