-- ==== Sys2Proof/Laws/Link.lean ====
section
/-! SUPPORT. What dropping a reply that is being sent can do (R121, log 12). -/

namespace Sys2Proof.Laws

open Sys2Proof.Machine

variable (s : State)

/-- A dropped reply: its context IDLE with its ticket, nothing being sent, both queues and every other block kept. -/
theorem dropReply_spec (c : Fin 6) :
    (∀ d, (dropReply c s).context d = if c = d then TrunkContext.idleWith (s.context c).ticket else s.context d)
      ∧ (dropReply c s).link = { s.link with transmitter := none }
      ∧ (dropReply c s).trunk.received = s.trunk.received ∧ (dropReply c s).trunk.ready = s.trunk.ready
      ∧ keepsBut [.link, .trunk] s (dropReply c s) := by
  refine ⟨fun d => ?_, rfl, rfl, rfl, rfl, fun b hb => ?_⟩
  · simp only [dropReply, setLink_context]
    exact context_clearContext s c d
  · cases b <;> first | rfl | simp at hb

/-- Whoever placed the condition, nothing is being sent after it. -/
theorem dropSending_transmitter : (dropSending s).link = { s.link with transmitter := none } := by
  unfold dropSending
  split
  next h => rw [← h]
  next => rfl

/-- While nothing is being sent there is no reply to drop. -/
theorem dropSending_of_silent (h : s.link.transmitter = none) : dropSending s = s := by simp [dropSending, h]

end Sys2Proof.Laws
end

