-- ==== Sys2Proof/Laws/Load.lean ====
section
/-! SUPPORT. The transfer of the configuration image (R187, R188): what is refused, what is received, and the phase that
follows. -/

namespace Sys2Proof.Laws

open Sys2Proof.Machine

variable (a h l r : Bool) (bytes : List Byte)

/-- The bytes received are those shifted out. -/
theorem receiveAll_received (v : List Byte) : (receiveAll v).filterMap ConfigEvent.received = v := by
  induction v with
  | nil => rfl
  | cons x rest ih =>
    cases rest with
    | nil => rfl
    | cons y rest => simpa [receiveAll, ConfigEvent.received] using ih

/-- A byte that the loader acknowledges or not is none that the memory refused. -/
theorem receiveAll_refused (v : List Byte) : (receiveAll v).any ConfigEvent.refused = false := by
  induction v with
  | nil => rfl
  | cons x rest ih =>
    cases rest with
    | nil => rfl
    | cons y rest => simpa [receiveAll, ConfigEvent.refused] using ih

/-- A missing acknowledge shows on the line, and only that. -/
theorem transfer_refused : (transfer a h l r bytes).any ConfigEvent.refused = !(a && h && l && r) := by
  cases a <;> cases h <;> cases l <;> cases r <;>
    simp [transfer, sendThen, ConfigEvent.refused, receiveAll_refused]

/-- With every acknowledge, the loader receives the bytes it reads. -/
theorem transfer_received :
    (transfer true true true true bytes).filterMap ConfigEvent.received = readBytes bytes := by
  simp only [transfer, sendThen, if_true, List.filterMap_cons, List.filterMap_append, receiveAll_received,
    ConfigEvent.received]
  simp

/-- The phase after the transfer: ABSENT for a missing acknowledge, else as the bytes read are judged. -/
theorem readPhase_transfer : readPhase (transfer a h l r bytes)
    = if (a && h && l && r) = true then
        match judgeRead (readBytes bytes) with
        | some (p, presets) => .judged .loaded p presets 0 0
        | none => .judged .rejected Params.defaults [] 0 0
      else .judged .absent Params.defaults [] 0 0 := by
  cases a <;> cases h <;> cases l <;> cases r <;>
    simp only [readPhase, transfer_refused, transfer_received] <;> rfl

end Sys2Proof.Laws
end

