-- ==== Sys2Proof/Laws/Port.lean ====
section
/-! SUPPORT. The transaction at the host port (R144, R145, R147): what replacing it leaves alone, and what each edge does. -/

namespace Sys2Proof.Laws

open Sys2Proof.Machine

variable (s : State)

/-! ## setTransaction, field by field -/

@[simp] theorem setTransaction_pending (x : Option Transaction) : (s.setTransaction x).pending = s.pending := rfl
@[simp] theorem setTransaction_dir (x : Option Transaction) : (s.setTransaction x).dir = s.dir := rfl
@[simp] theorem setTransaction_arb (x : Option Transaction) : (s.setTransaction x).arb = s.arb := rfl
@[simp] theorem setTransaction_search (x : Option Transaction) : (s.setTransaction x).search = s.search := rfl
@[simp] theorem setTransaction_time (x : Option Transaction) : (s.setTransaction x).time = s.time := rfl
@[simp] theorem setTransaction_link (x : Option Transaction) : (s.setTransaction x).link = s.link := rfl
@[simp] theorem setTransaction_trunk (x : Option Transaction) : (s.setTransaction x).trunk = s.trunk := rfl
@[simp] theorem setTransaction_notify (x : Option Transaction) : (s.setTransaction x).notify = s.notify := rfl
@[simp] theorem setTransaction_doze (x : Option Transaction) : (s.setTransaction x).doze = s.doze := rfl
@[simp] theorem setTransaction_loader (x : Option Transaction) : (s.setTransaction x).loader = s.loader := rfl
@[simp] theorem setTransaction_params (x : Option Transaction) : (s.setTransaction x).params = s.params := rfl
@[simp] theorem setTransaction_port (x : Option Transaction) :
    (s.setTransaction x).port = { s.port with transaction := x } := rfl
@[simp] theorem setTransaction_slot (x : Option Transaction) (i : SlotNo) : (s.setTransaction x).slot i = s.slot i := rfl
@[simp] theorem setTransaction_entryOf (x : Option Transaction) (i : SlotNo) : (s.setTransaction x).entryOf i = s.entryOf i := rfl
@[simp] theorem setTransaction_searchContext (x : Option Transaction) (m : Fin 4) : (s.setTransaction x).searchContext m = s.searchContext m := rfl
@[simp] theorem setTransaction_context (x : Option Transaction) (c : Fin 6) : (s.setTransaction x).context c = s.context c := rfl
@[simp] theorem setTransaction_commandSlot (x : Option Transaction) (m : Fin 4) : (s.setTransaction x).commandSlot m = s.commandSlot m := rfl
@[simp] theorem setTransaction_portListens (x : Option Transaction) : (s.setTransaction x).portListens = s.portListens := rfl
@[simp] theorem setTransaction_settled (x : Option Transaction) : (s.setTransaction x).settled = s.settled := rfl
@[simp] theorem setTransaction_setTransaction (x y : Option Transaction) :
    (s.setTransaction x).setTransaction y = s.setTransaction y := rfl

/-! ## The edges -/

/-- HSEL's fall with the port listening and no transaction begins one. -/
theorem hselFall_of_listens (h : s.portListens = true) (n : s.port.transaction = none) :
    hselFall s = s.setTransaction (some Transaction.begun) := by simp [hselFall, h, n]

/-- R147: with RESET or HRST low, HSEL is ignored. -/
theorem hselFall_of_not_listens (h : s.portListens = false) : hselFall s = s := by simp [hselFall, h]

/-- A rising edge of HSCK changes at most the transaction and the tail of the queue. -/
theorem hsckRise_eq (b : Bool) :
    ∃ x more, hsckRise b s = { s.setTransaction x with pending := s.pending ++ more } := by
  unfold hsckRise
  cases ht : s.port.transaction with
  | none => exact ⟨none, [], by simp [State.setTransaction, State.setPort, ← ht]⟩
  | some t =>
    simp only
    split
    · exact ⟨_, [], by simp [State.setTransaction, State.setPort]; rfl⟩
    · unfold takeByte
      split
      · exact ⟨_, [], by simp [State.setTransaction, State.setPort]; rfl⟩
      · split
        · exact ⟨_, [], by simp [State.setTransaction, State.setPort]; rfl⟩
        · simp only
          split
          · exact ⟨_, [_], rfl⟩
          all_goals exact ⟨_, [], by simp [State.setTransaction, State.setPort]; rfl⟩

/-- A falling edge of HSCK changes at most the transaction. -/
theorem hsckFall_eq : ∃ x, hsckFall s = s.setTransaction x := by
  unfold hsckFall
  cases ht : s.port.transaction with
  | none => exact ⟨none, by simp [State.setTransaction, State.setPort, ← ht]⟩
  | some t =>
    simp only
    split <;> exact ⟨_, rfl⟩

/-- HSDO is in high impedance exactly while no transaction is in progress. -/
theorem hsdo_eq_none_iff : s.hsdo = none ↔ s.port.transaction = none := by simp [State.hsdo]

/-! ## A transaction and what the ticks produced -/

/-- Ending waits leaves the transaction, and does the same whatever the transaction. -/
theorem endWaitsIn_setTransaction (code : ResultCode) (ends : TrunkContext → Bool) (x : Option Transaction)
    (l : List (Fin 6)) (s : State) :
    l.foldl (fun s c => if ends (s.context c) then endWait code c s else s) (s.setTransaction x)
      = (l.foldl (fun s c => if ends (s.context c) then endWait code c s else s) s).setTransaction x := by
  induction l generalizing s with
  | nil => rfl
  | cons c rest ih =>
    simp only [List.foldl_cons, setTransaction_context]
    rw [← ih]
    by_cases h : ends (s.context c) = true
    · simp only [h, if_true]; rfl
    · simp only [h]; rfl

/-- What is due is taken in the same way whatever the transaction in progress. -/
theorem settle_setTransaction (x : Option Transaction) : settle (s.setTransaction x) = (settle s).setTransaction x := by
  have fault : ∀ s : State, settleFault (s.setTransaction x) = (settleFault s).setTransaction x := fun s => by
    show (if s.faultDue then _ else _) = (if s.faultDue then _ else _ : State).setTransaction x
    split <;> rfl
  have release : ∀ s : State, settleRelease (s.setTransaction x) = (settleRelease s).setTransaction x := fun s => by
    show (if s.releaseDue then _ else _) = (if s.releaseDue then _ else _ : State).setTransaction x
    split <;> rfl
  have tenMs : ∀ s : State, settleTenMs (s.setTransaction x) = (settleTenMs s).setTransaction x := fun s => by
    show (if s.time.tenMsDue then _ else _) = (if s.time.tenMsDue then _ else _ : State).setTransaction x
    split <;> rfl
  have expiry : ∀ s : State, settleExpiry (s.setTransaction x) = (settleExpiry s).setTransaction x := fun s => by
    show (if s.expiryDue then _ else _) = (if s.expiryDue then _ else _ : State).setTransaction x
    split
    · exact endWaitsIn_setTransaction .partial_ _ x _ s
    · rfl
  have second : ∀ s : State, settleSecond (s.setTransaction x) = (settleSecond s).setTransaction x := fun s => by
    show (if s.time.secondDue then _ else _) = (if s.time.secondDue then _ else _ : State).setTransaction x
    split
    · show (if s.time.owed < 15 then _ else _) = (if s.time.owed < 15 then _ else _ : State).setTransaction x
      split <;> rfl
    · rfl
  simp only [settle, fault, release, tenMs, expiry, second]

/-- A byte of the window reads the same whatever the transaction in progress. -/
@[simp] theorem windowByte_setTransaction (x : Option Transaction) (a : Byte) :
    (s.setTransaction x).windowByte a = s.windowByte a := by
  have high : ∀ u : State, (u.setTransaction x).highByte a.toNat = u.highByte a.toNat := fun u => by
    have counts : (u.setTransaction x).countsBytes = u.countsBytes := rfl
    have status : (u.setTransaction x).portStatus = u.portStatus := rfl
    simp only [State.highByte, counts, status, setTransaction_notify, setTransaction_doze, setTransaction_time,
      setTransaction_loader, setTransaction_params]
  simp only [State.windowByte, settle_setTransaction, setTransaction_commandSlot, high]

/-! ## Groups (R145) -/

/-- A byte outside the slots is read in the settled state. -/
theorem windowByte_of_high (a : Byte) (h : slotAddress a = none) : s.windowByte a = (settle s).highByte a.toNat := by
  simp [State.windowByte, h]

/-- The group at D0h is the bytes that single reads of its addresses return: the state counts. -/
theorem group_counts : (settle s).group 0xD0
    = some ([0xD0, 0xD1, 0xD2, 0xD3, 0xD4, 0xD5, 0xD6, 0xD7].map s.windowByte) := by
  have h : ∀ a : Byte, slotAddress a = none → s.windowByte a = (settle s).highByte a.toNat := windowByte_of_high s
  simp only [State.group, List.map]
  rw [h 0xD0 rfl, h 0xD1 rfl, h 0xD2 rfl, h 0xD3 rfl, h 0xD4 rfl, h 0xD5 rfl, h 0xD6 rfl, h 0xD7 rfl]
  simp [State.highByte, State.countsBytes, countBytes, halfBytes]

/-- The group at D8h is the bytes that single reads of its addresses return: the wake record. -/
theorem group_record : (settle s).group 0xD8
    = some ([0xD8, 0xD9, 0xDA, 0xDB, 0xDC].map s.windowByte) := by
  have h : ∀ a : Byte, slotAddress a = none → s.windowByte a = (settle s).highByte a.toNat := windowByte_of_high s
  simp only [State.group, List.map]
  rw [h 0xD8 rfl, h 0xD9 rfl, h 0xDA rfl, h 0xDB rfl, h 0xDC rfl]
  cases hr : (settle s).doze.record with
  | none => simp [State.highByte, Doze.recordBytes, hr]
  | some w => cases w <;> simp [State.highByte, Doze.recordBytes, hr, halfBytes]

/-- The group at E0h is the bytes that single reads of its addresses return: the parameter copies. -/
theorem group_params : (settle s).group 0xE0
    = some ([0xE0, 0xE1, 0xE2, 0xE3, 0xE4, 0xE5, 0xE6, 0xE7, 0xE8, 0xE9, 0xEA, 0xEB].map s.windowByte) := by
  have h : ∀ a : Byte, slotAddress a = none → s.windowByte a = (settle s).highByte a.toNat := windowByte_of_high s
  simp only [State.group, List.map]
  rw [h 0xE0 rfl, h 0xE1 rfl, h 0xE2 rfl, h 0xE3 rfl, h 0xE4 rfl, h 0xE5 rfl, h 0xE6 rfl, h 0xE7 rfl, h 0xE8 rfl,
    h 0xE9 rfl, h 0xEA rfl, h 0xEB rfl]
  simp [State.highByte, Params.bytes, countBytes, halfBytes]

/-! ## Bits and bytes -/

/-- The bits of a byte, gathered again. -/
theorem bytesOf_bitsOf (b : Byte) (rest : List Bool) : bytesOf (bitsOf b ++ rest) = b :: bytesOf rest := by
  have h : ∀ b : Byte, BitVec.ofNat 8 (128 * (b.getLsbD 7).toNat + 64 * (b.getLsbD 6).toNat + 32 * (b.getLsbD 5).toNat
      + 16 * (b.getLsbD 4).toNat + 8 * (b.getLsbD 3).toNat + 4 * (b.getLsbD 2).toNat + 2 * (b.getLsbD 1).toNat
      + (b.getLsbD 0).toNat) = b := by decide +kernel
  have e : bytesOf (bitsOf b ++ rest) = _ :: bytesOf rest := rfl
  rw [e, h b]

/-- Fewer than eight bits make no byte. -/
theorem bytesOf_of_short (bits : List Bool) (h : bits.length < 8) : bytesOf bits = [] := by
  match bits, h with
  | [], _ | [_], _ | [_, _], _ | [_, _, _], _ | [_, _, _, _], _ | [_, _, _, _, _], _ | [_, _, _, _, _, _], _
  | [_, _, _, _, _, _, _], _ => rfl

end Sys2Proof.Laws
end

