-- ==== Sys2Proof/Laws/Time.lean ====
section
/-! SUPPORT. The millisecond divider (R53): MS_TICK is the rest of the millisecond, one REFCLK period after another. -/

namespace Sys2Proof.Laws

open Sys2Proof.Machine

variable (tkc tkd : LineMs) (s : State)

/-- With RESET low a period changes nothing. -/
theorem refclkPeriod_of_resetLow (h : s.resetLow = true) : refclkPeriod tkc tkd s = s := by simp [refclkPeriod, h]

/-- Below the divider value in force a period raises the divider count, and that alone. -/
theorem refclkPeriod_of_lt (h : s.resetLow = false) (hc : s.time.dividerCount < s.time.dividerInForce) :
    refclkPeriod tkc tkd s = s.setTime { s.time with dividerCount := s.time.dividerCount + 1 } := by
  simp [refclkPeriod, h, hc]

/-- At the divider value in force a period ends the millisecond. -/
theorem refclkPeriod_of_le (h : s.resetLow = false) (hc : s.time.dividerInForce ≤ s.time.dividerCount) :
    refclkPeriod tkc tkd s
      = { s with time := tickTime s.params.msDivider s.time, link := tickLink tkc tkd s.link } := by
  simp [refclkPeriod, h, Nat.not_lt.mpr hc]

/-- With RESET low the rest of the millisecond changes nothing. -/
theorem msEffect_of_resetLow (h : s.resetLow = true) : msEffect tkc tkd s = s := by
  simp [msEffect, fillDivider, refclkPeriod, h]

/-- With RESET high the rest of the millisecond is its tick. -/
theorem msEffect_of_running (h : s.resetLow = false) :
    msEffect tkc tkd s = { s with time := tickTime s.params.msDivider s.time, link := tickLink tkc tkd s.link } := by
  have e : fillDivider s = s.setTime { s.time with dividerCount := max s.time.dividerCount s.time.dividerInForce } := by
    simp [fillDivider, h]
  rw [msEffect, e]
  exact refclkPeriod_of_le tkc tkd _ h (Nat.le_max_right _ _)

/-- The periods before the last raise the divider count one by one. -/
theorem repeat_refclkPeriod (h : s.resetLow = false) (n : Nat)
    (hn : s.time.dividerCount + n ≤ s.time.dividerInForce) :
    Nat.repeat (refclkPeriod tkc tkd) n s = s.setTime { s.time with dividerCount := s.time.dividerCount + n } := by
  induction n with
  | zero => simp [Nat.repeat, State.setTime]
  | succ n ih =>
    have ih := ih (by omega)
    rw [Nat.repeat, ih, refclkPeriod_of_lt]
    · simp [State.setTime, Nat.add_assoc]
    · exact h
    · simp only [setTime_time]; omega

/-- MS_TICK is the REFCLK periods that the millisecond still lasts: those that raise the divider count to the divider value
in force, and the one that ends it. -/
theorem msEffect_eq_repeat (h : s.resetLow = false) (hc : s.time.dividerCount ≤ s.time.dividerInForce) :
    msEffect tkc tkd s
      = Nat.repeat (refclkPeriod tkc tkd) (s.time.dividerInForce - s.time.dividerCount + 1) s := by
  rw [Nat.repeat, repeat_refclkPeriod _ _ _ h _ (by omega), msEffect_of_running _ _ _ h, refclkPeriod_of_le]
  · rfl
  · exact h
  · simp only [setTime_time]; omega

end Sys2Proof.Laws
end

