-- ==== Sys2Proof/Tests/Slice0.lean ====
section
/-! SUPPORT. The model's own tests: the operand checks, the check byte of the manual's worked frame, single steps on small
states, and for every statement with hypotheses a state that meets them. -/

namespace Sys2Proof.Tests

open Sys2Proof.Machine

-- One theorem after another: the kernel's evaluations side by side would need more threads than the check's memory holds.
set_option Elab.async false

/-! ## Small states -/

/-- After load end, nothing posted, nothing received, the directory empty. -/
def ready : State :=
  { State.reset with loader := { phase := .ended, outcome := .absent, presetsLoaded := 0, presetsSkipped := 0 } }

/-- Slot 0 posted with a CODE and further bytes. -/
def commanding (code : Byte) (fields : List (Fin 48 × Byte)) (s : State) : State :=
  s.setPort { s.port with
    slots := s.port.slots.set 0
      { (CommandSlot.cleared.write ((Offset.code, code) :: fields)) with state := .posted }
    postOrder := [0] }

/-- Context 0 received with a request. -/
def requesting (node kind : Byte) (payload : List Byte) (s : State) : State :=
  let s := s.setContext 0
    { TrunkContext.idleWith 1 with
      state := .received, requester := some node, kind := some kind, tag := some 7, length := some payload.length
      payload := payload }
  s.setTrunk { s.trunk with received := [0] }

/-- Slot 0 of the directory holds an entry under generation 1: its handle is 0100h. -/
def holding (e : Entry) (s : State) : State :=
  s.setDir { s.dir with slots := s.dir.slots.set 0 { generation := 1, entry := some e }, free := s.dir.free.tail }

/-- The handle of `holding`, in the HANDLE field. -/
def named : List (Fin 48 × Byte) := halfAt Offset.handle 0x0100

/-- A permanent LOCAL entry of tag "A", watched. -/
def localEntry : Entry :=
  { origin := .loc, tag := [0x41], cls := 1, reach := none, visibility := .open_, watch := true, wake := true
    leaseLength := none, life := .live none, lock := none, attrs := [], marks := Marks.none_ }

/-- An entry of node 5, with a lease. -/
def nodeEntry : Entry :=
  { localEntry with origin := .trunk 5, reach := some 5, leaseLength := some 20, life := .live (some 3) }

/-- Node 5's entry after its lease. -/
def staleEntry : Entry := { nodeEntry with life := .stale 4 }

/-- Node 5's entry after its retirement. -/
def spentEntry : Entry := { nodeEntry with life := .spent, marks := { retired := true } }

/-- An entry that node 9 has locked. -/
def lockedBy9 (e : Entry) : Entry := { e with lock := some { holder := .node 9, lapse := 5 } }

/-- The state after a command that gives one; the state itself otherwise. -/
def after (i : Instr) (s : State) : State :=
  match exec i s with
  | .next t => t
  | .fault _ | .refused _ => s

/-! ## Operand checks (WellFormed) -/

theorem test_doze_write_of_an_awake_byte_is_refused : Instr.wellFormed (.powerDoze 0x03) = false := by decide

theorem test_awake_write_of_a_doze_byte_is_refused : Instr.wellFormed (.powerAwake 0x02) = false := by decide

theorem test_window_write_of_a_row_of_its_own_is_refused :
    Instr.wellFormed (.windowWrite 0xC1 0x00) = false ∧ Instr.wellFormed (.windowWrite 0xC4 0x01) = false
      ∧ Instr.wellFormed (.windowWrite 0x31 0x02) = false := by decide

theorem test_well_formed_commands :
    Instr.wellFormed (.powerDoze 0x02) = true ∧ Instr.wellFormed (.powerAwake 0x03) = true
      ∧ Instr.wellFormed (.windowWrite 0x31 0x04) = true ∧ Instr.wellFormed (.windowWrite 0xC0 0x01) = true := by decide

/-! ## Words and frames -/

/-- No row of the table gives bits. -/
theorem test_no_word_spells_a_command : decodeTableWord 8 0x5A = none ∧ ready.withFetchWord 8 0x5A = ready := ⟨rfl, rfl⟩

/-- The worked frame of 6.7: destination 70h, source 17h, a YIELD with tag 5Ah of handle 0614h, check DDh. -/
theorem test_check_byte_of_the_worked_frame :
    crc [0x70, 0x17, 0x09, 0x5C, 0x02, 0x06, 0x14] = 0xDD
      ∧ requestFrame 0x70 0x17 0x09 0x5C [0x06, 0x14] = [0x70, 0x17, 0x09, 0x5C, 0x02, 0x06, 0x14, 0xDD] := by decide +kernel

/-- The register after each byte of the worked frame (6.7). -/
theorem test_register_of_the_worked_frame :
    (List.range 7).map (fun k => crc ([0x70, 0x17, 0x09, 0x5C, 0x02, 0x06, 0x14].take (k + 1)))
      = [0x57, 0xC7, 0x64, 0xA8, 0x5F, 0x88, 0xDD] := by decide +kernel

/-- Handle 17.3 is 0311h (5.5). -/
theorem test_handle_of_slot_17_generation_3 :
    mkHandle 3 17 = 0x0311 ∧ handleSlot 0x0311 = 17 ∧ handleGeneration 0x0311 = 3 := by decide

/-- The generations 0, 254 and 255 advance to 1, 255 and 1 (R4). -/
theorem test_next_generation : nextGeneration 0 = 1 ∧ nextGeneration 254 = 255 ∧ nextGeneration 255 = 1 := by decide

/-! ## Single steps -/

theorem test_load_start : after .loadStart State.reset = { State.reset with loader := { State.reset.loader with phase := .reading } } := by
  decide +kernel

theorem test_absent_memory :
    (after (.configRead false true true true []) (State.reset.setLoader { State.reset.loader with phase := .reading })).loader.phase
      = .judged .absent Params.defaults [] 0 0 := by decide +kernel

/-- A wrong marker is the last byte the loader reads; a byte that the memory refuses ends the transfer. -/
theorem test_transfer_stops_early :
    transfer true true true true [0x5B, 0x00, 0x12]
        = [.start, .send 0xA0 true, .send 0x00 true, .send 0x00 true, .restart, .send 0xA1 true, .receive 0x5B false, .stop]
      ∧ transfer true false true true [0x5A] = [.start, .send 0xA0 true, .send 0x00 false, .stop] := by decide +kernel

/-- A length of 17 is the last thing the loader reads. -/
theorem test_transfer_of_a_short_length :
    (transfer true true true true [0x5A, 0x00, 0x11, 0x70]).drop 6
      = [.receive 0x5A true, .receive 0x00 true, .receive 0x11 false, .stop] := by decide +kernel

theorem test_image_without_presets :
    (after (.configRead true true true true (imageOf { Params.defaults with grace := 9 } [] 0))
      (State.reset.setLoader { State.reset.loader with phase := .reading })).loader.phase
      = .judged .loaded { Params.defaults with grace := 9 } [] 0 0 := by decide +kernel

theorem test_post_and_abort :
    (after (.post 2) ready).port.postOrder = [2]
      ∧ ((after (.abort 0) (commanding 0x06 [] ready)).commandSlot 0).byte Offset.result = 0x12 := by decide +kernel

theorem test_unknown_code :
    ((after .unknownCommand (commanding 0x13 [] ready)).commandSlot 0).byte Offset.result = 0x0A
      ∧ (after .unknownCommand (commanding 0x13 [] ready)).flag .cmd = true := by decide +kernel

theorem test_row_of_another_code_changes_nothing :
    after .read (commanding 0x07 [] ready) = commanding 0x07 [] ready := by decide +kernel

theorem test_read :
    let c := (after .read (commanding 0x06 named (holding (lockedBy9 nodeEntry) ready))).commandSlot 0
    c.byte Offset.result = 0x01 ∧ c.byte Offset.owner = 5 ∧ c.half Offset.value = 3 ∧ c.half Offset.lease = 20
      ∧ c.byte Offset.holder = 9 ∧ c.byte Offset.hold = 5 ∧ c.byte Offset.data = 0x41 := by decide +kernel

theorem test_retire_of_a_locked_entry :
    ((after .retire (commanding 0x05 named (holding (lockedBy9 nodeEntry) ready))).commandSlot 0).byte Offset.result = 0x08
      ∧ ((after .retire (commanding 0x05 ((Offset.options, 0x01) :: named) (holding (lockedBy9 nodeEntry) ready))).entryOf 0)
        = none := by decide +kernel

theorem test_create_takes_slot_0 :
    let t := after .create (commanding 0x01 [(Offset.tagLength, 1), (Offset.data, 0x41)] ready)
    (t.commandSlot 0).half Offset.handle = 0x0100 ∧ t.entryOf 0 = some { localEntry with cls := 0, watch := false, wake := false }
      := by decide +kernel

theorem test_claim_is_held_to_lock_max :
    let t := after .claim (requesting 9 0x08 [0x01, 0x00, 0xFF] (holding nodeEntry ready))
    (t.entryOf 0).bind (fun e => e.lock) = some { holder := .node 9, lapse := 60 }
      ∧ t.trunk.ready = [0] ∧ t.trunk.received = [] := by decide +kernel

theorem test_withdraw_of_a_watched_entry_marks_it :
    let t := after .withdraw (requesting 5 0x03 [0x01, 0x00] (holding nodeEntry ready))
    t.entryOf 0 = some { nodeEntry with life := .spent, marks := { retired := true } } ∧ t.flag .mark = true := by
  decide +kernel

theorem test_fetch_of_a_guarded_entry :
    ((after .fetch (requesting 9 0x05 [0x01, 0x00] (holding { nodeEntry with visibility := .guarded } ready))).context 0).reply
      = some { kind := 0x85, code := .denied, body := [0, 0, 0, 0, 0] } := by decide +kernel

theorem test_reject :
    ((after .reject (requesting 9 0x2A [0x01] ready)).context 0).reply
      = some { kind := 0xFF, code := .badParam, body := [0x2A] } := by decide +kernel

theorem test_seek_claims_search_context_0 :
    let t := after .seek (requesting 9 0x04 [0, 0, 0, 1, 0x41, 0, 1] ready)
    (t.context 0).state = .serving ∧ (t.context 0).linked = some 0 ∧ (t.searchContext 0).isRunning = true := by decide +kernel

theorem test_second_tick_is_lost_at_15 :
    let s := ready.setTime { ready.time with owed := 15, secondDue := true }
    (after .secondTick s).time.owed = 15 ∧ (after .secondTick s).flag .slip = true := by decide +kernel

/-- MS_TICK at divider count 0 and two periods at the end of the millisecond: the first fills the divider, the second ends it. -/
theorem test_divider_decides_the_tick :
    let s := ready.setTime { ready.time with dividerCount := 7998 }
    let t := refclkPeriod .low .high s
    (after (.msTick .low .high) ready).time.tenMsCount = 1 ∧ t.time.dividerCount = 7999 ∧ t.time.tenMsCount = 0
      ∧ (refclkPeriod .low .high t).time.dividerCount = 0 ∧ (refclkPeriod .low .high t).time.tenMsCount = 1
      ∧ (refclkPeriod .low .high t).link.tkcLow = 1 := by decide +kernel

/-- On an empty queue the millisecond ends too, whatever the lines were. -/
theorem test_idle_step_ends_the_millisecond :
    let s := ready.setTime { ready.time with dividerCount := 7999 }
    (idlePeriod s).time.dividerCount = 0 ∧ (idlePeriod s).time.tenMsCount = 1 ∧ (idlePeriod s).time.idleTicks = 1 := by
  decide +kernel

theorem test_destination_byte_claims_context_0 :
    let s := after .startCondition ready
    ((after (.receiveByte 0x70) s).context 0).state = .receiving ∧ (after (.receiveByte 0x71) s).link.receiver = .ignoring
      := by decide +kernel

theorem test_fault_sets_trunk_with_stuck :
    let s := ready.setLink { ready.link with tkcLow := 25 }
    (after .trunkFault s).link.state = .fault ∧ (after .trunkFault s).flag .trunk = true
      ∧ (after .trunkFault s).cause .stuck = true := by decide +kernel

/-- A WRITE of F0h to FLAGS at the pins joins the queue; a READ of C1h shifts out 00h, 00h and FLAGS. -/
theorem test_transactions_at_the_pins :
    let s : State := { ready with notify := { ready.notify with flags := 0xA5 } }
    (hselRise (clocked (bitsOf 0x02 ++ bitsOf 0xC1 ++ bitsOf 0xF0 ++ [true, true]) (hselFall s))).pending
        = [.flagsWrite 0xF0]
      ∧ shiftedOut (bitsOf 0x03 ++ bitsOf 0xC1 ++ bitsOf 0x00) (hselFall s)
        = (bitsOf 0x00 ++ bitsOf 0x00 ++ bitsOf 0xA5).map some ∧ s.hsdo = none := by decide +kernel

/-- HOST_RESET ends the transaction, and the port ignores HSEL until HRST is high. -/
theorem test_host_reset_ends_the_transaction :
    let t := after .hostReset (clocked [true, false] (hselFall ready))
    t.port.transaction = none ∧ (hselFall t).hsdo = none ∧ (hselFall (after .hostResetRelease t)).hsdo = some false := by decide +kernel

/-- The parameter copies are captured with their first byte, and a byte inside the group comes from that capture. -/
theorem test_group_is_captured_whole :
    captureAt 0xE0 [] ready = (0x70, [0x01, 0, 10, 0x0E, 0x10, 30, 60, 50, 0x1F, 0x3F, 0x00])
      ∧ captureAt 0xE1 [0x55] ready = (0x55, []) := by decide +kernel

/-! ## States for the hypotheses of the statements -/

/-- Nothing is held in a directory as it stands after reset. -/
theorem no_entry {s : State} (h : s.dir.slots = Directory.reset.slots) (i : SlotNo) : s.entryOf i = none := by
  simp [State.entryOf, State.slot, h, Directory.reset]

theorem no_tag {s : State} (h : s.dir.slots = Directory.reset.slots) (tag : List Byte) : ¬tagTaken tag s := by
  rintro ⟨i, e, he, _⟩
  simp [no_entry h] at he

/-- With `holding`, slot 0 alone is in use. -/
theorem holding_entry (e : Entry) (i : SlotNo) :
    (holding e ready).entryOf i = if i = 0 then some e else none := by
  have h0 : ready.dir.slots = Directory.reset.slots := rfl
  simp only [State.entryOf, State.slot, holding, Laws.setDir_dir, h0, Directory.reset]
  by_cases h : i = 0
  · subst h; rfl
  · have hv : (0 : Nat) ≠ i.val := fun x => h (Fin.ext x.symm)
    simp [hv, h]

/-- Search context 0 RUNNING. -/
def searching (r : Search) (s : State) : State := s.setSearch 0 (.running r)

/-- A LOCAL STEPPED search for tags that begin with "A". -/
def localSample : Search :=
  { owner := .loc, burst := false, pattern := [0x41], mask := 1, exact := false, classFilter := none, includeStale := false
    start := 0, cursor := 0, limit := 1, results := [] }

/-- The search of trunk context 0, about to examine its last slot, with slot 0 found. -/
def trunkSample : Search :=
  { localSample with owner := .trunk 0, limit := 4, cursor := 255, results := [0x0100] }

/-- Search context 3 in a given state. -/
def searchAt3 (x : SearchContext) (s : State) : State := s.setSearch 3 x

/-- Every search context RUNNING. -/
def searchesFull (s : State) : State := { s with search := Vector.replicate 4 (.running localSample) }

/-- Context 5 waits for the host with the SEEK of node 9. -/
def waiting (deadline : Nat) (s : State) : State :=
  s.setContext 5
    { TrunkContext.idleWith 33 with
      state := .awaitingHost, requester := some 9, kind := some 4, tag := some 7, length := some 7
      payload := [0, 0, 0, 1, 0x41, 0, 1], nextCursor := some 15, deadline := some deadline
      results := [{ handle := 0x0100, reach := some 5, cls := 1, visibility := .guarded, guarded := true }] }

/-- The loader with an image judged. -/
def judged (left : List Preset) : State :=
  State.reset.setLoader { State.reset.loader with phase := .judged .loaded Params.defaults left 0 0 }

/-- A preset at the ends of its ranges: 16 tag bytes, reach 111, CLOSED, six pairs from 1 to 254. -/
def widePreset : Preset :=
  { tag := List.replicate 16 0x41, cls := 0, reach := 111, visibility := 2, flags := 3
    attrs := [⟨1, 0⟩, ⟨2, 0⟩, ⟨3, 0⟩, ⟨4, 0⟩, ⟨5, 0⟩, ⟨254, 0⟩] }

/-- The transfer runs. -/
def reading : State := State.reset.setLoader { State.reset.loader with phase := .reading }

/-- Seconds owed. -/
def owing (n : Nat) : State := ready.setTime { ready.time with owed := n }

/-- HRST low. -/
def hostHeld : State := ready.setPort { ready.port with hrstLow := true }

/-- The link BUSY, the receiver as given. -/
def linkAt (r : Receiver) (s : State) : State :=
  s.setLink { s.link with state := .busy, receiver := r, latchedDir := some 112, afterLoad := true }

/-- Context 0 REPLY_READY at the head of the ready queue. -/
def replying : State :=
  let s := ready.setContext 0
    { TrunkContext.idleWith 1 with
      state := .replyReady, requester := some 9, kind := some 3, tag := some 7
      reply := some { kind := 0x83, code := .ok, body := [] } }
  s.setTrunk { s.trunk with ready := [0] }

/-- Context 0 SENDING, `sent` of its bytes acknowledged. -/
def sendingAt (sent : Nat) : State :=
  let s := after .replySendStart replying
  s.setLink { s.link with transmitter := some { context := 0, sent := sent } }

/-- Another master's RESTART and STOP while the part sends: the link follows them, the reply is dropped and no flag is set. -/
theorem test_conditions_while_sending :
    let r := after .restartCondition (sendingAt 2)
    let t := after .stopCondition (sendingAt 2)
    r.link.state = .busy ∧ r.link.receiver = .destination ∧ r.link.transmitter = none ∧ r.trunk.ready = []
      ∧ r.context 0 = TrunkContext.idleWith 1 ∧ r.flag .trunk = false ∧ t.link.state = .idle ∧ t.link.transmitter = none
      ∧ t.context 0 = TrunkContext.idleWith 1 ∧ t.trunk.ready = [] := by
  decide +kernel

/-- A takeover in DOZE under wake enable: the record names the old entry. -/
theorem test_takeover_wakes_by_the_old_entry :
    let s := requesting 6 0x01 [1, 0x41, 0, 1, 0, 1] (holding staleEntry ready)
    let t := after .announce
      ((s.setParams { s.params with trunkWatch := true, trunkWake := true }).setDoze { s.doze with wakeEnable := true })
    t.doze.record = some (.mark 0x0100) ∧ t.flag .mark = true ∧ t.flag .wake = true
      ∧ (t.entryOf 0).map (fun e => e.life) = some .spent ∧ (t.entryOf 1).map (fun e => e.marks.created) = some true := by
  decide +kernel

/-! ## Every hypothesis is met -/

theorem witness_StepRunsTheFrontCommand : ({ ready with pending := [.loadStart] } : State).pending = .loadStart :: [] := rfl

theorem witness_ArbiterGrantsByRotation :
    State.reset.loadEnded = false ∧ ready.loadEnded = true
      ∧ servesCommand 0 0x0E (commanding 0x0E [] ready)
      ∧ servesRequest 0 5 0x05 (halfBytes 0x0100) (requesting 5 0x05 [0x01, 0x00] ready)
      ∧ (searching localSample ready).settled = true ∧ (searching localSample ready).nextGrant = some .search
      ∧ (owing 1).settled = true ∧ (owing 1).nextGrant = some .sweep ∧ ready.nextGrant = none
      ∧ (searchAt3 (.running localSample) ready).nextSearch = some 3 := by
  unfold servesCommand servesRequest; decide +kernel

theorem witness_FullResetAndItsRelease : State.reset.settled = true ∧ State.reset.resetLow = true := by decide +kernel

theorem witness_ConfigReadJudgesTheImage :
    reading.settled = true ∧ reading.loader.phase = .reading
      ∧ (half 0 17).toNat < 18 ∧ 512 < (half 2 1).toNat ∧ ([0x5B, 0, 18] : List Byte).getD 0 0 ≠ 0x5A := by decide +kernel

theorem witness_ConfigReadJudgesTheImage_loaded :
    let bytes := imageOf Params.defaults [] 0
    let shifted := fun k => bytes.getD k (Config.memoryByte k)
    let image := (List.range 18).map shifted
    let body := image.take 16
    shifted 0 = 0x5A ∧ (half (shifted 1) (shifted 2)).toNat = 18
      ∧ image = body ++ countBytes (((body.map BitVec.toNat).foldl (· + ·) 0) % 65536) ∧ (image.getD 15 0).toNat ≤ 8
      ∧ parseParams ((body.drop 3).take 12) = some Params.defaults
      ∧ parsePresets (image.getD 15 0).toNat (body.drop 16) = some [] := by decide +kernel

theorem witness_ConfigReadJudgesTheImage_rejected :
    let bytes : List Byte := [0x5A, 2, 0] ++ List.replicate 509 0
    let shifted := fun k => bytes.getD k (Config.memoryByte k)
    (half (shifted 1) (shifted 2)).toNat = 512
      ∧ parseParams (((((List.range 512).map shifted).take 510).drop 3).take 12) = none := by decide +kernel

theorem witness_WrittenImageIsReadBack :
    Params.defaults.inRange = true ∧ (List.replicate 8 widePreset).length ≤ 8
      ∧ (∀ x ∈ List.replicate 8 widePreset, x.tag.length ≤ 255 ∧ x.attrs.length ≤ 255)
      ∧ (imageOf Params.defaults (List.replicate 8 widePreset) 0).length ≤ 512 := by decide +kernel

theorem witness_PresetIsCreatedOrSkipped :
    (judged [widePreset]).settled = true
      ∧ (judged [widePreset]).loader.phase = .judged .loaded Params.defaults [widePreset] 0 0
      ∧ widePreset.tag.length = 16 ∧ ¬tagTaken widePreset.tag (judged [widePreset])
      ∧ widePreset.visibility.toNat ≤ 2 ∧ widePreset.reach.toNat ≤ 111 ∧ widePreset.attrs.length = 6
      ∧ (∀ a ∈ widePreset.attrs, 1 ≤ a.id.toNat ∧ a.id.toNat ≤ 254)
      ∧ widePreset.attrs.Pairwise (fun a b => a.id.toNat < b.id.toNat)
      ∧ (judged [widePreset]).dir.free = 0 :: allSlots.tail
      ∧ ¬({ widePreset with tag := [] } : Preset).tag.length ≥ 1
      ∧ ¬({ widePreset with reach := 112 } : Preset).reach.toNat ≤ 111 :=
  ⟨by decide +kernel, rfl, by decide, no_tag rfl _, by decide, by decide, by decide, by decide, by decide, by decide +kernel,
    by decide, by decide⟩

theorem witness_LoadEndOpensThePart :
    (judged []).settled = true ∧ (judged []).loader.phase = .judged .loaded Params.defaults [] 0 0 := by decide +kernel

theorem witness_HostResetClearsTheHostSide :
    ready.settled = true ∧ ready.port.hrstLow = false ∧ hostHeld.settled = true ∧ hostHeld.port.hrstLow = true := by
  decide +kernel

theorem witness_SecondTickIsOwedOrLost :
    ready.time.secondDue = false
      ∧ (∀ n ∈ [14, 15], ((owing n).setTime { (owing n).time with secondDue := true }).time.secondDue = true)
      ∧ (owing 15).settled = true ∧ (owing 15).nextGrant = some .sweep := by decide +kernel

theorem witness_DeadlineExpiryRepliesPartial :
    ((waiting 0 ready).context 5).state = .awaitingHost ∧ ((waiting 0 ready).context 5).deadline = some 0
      ∧ ((waiting 1 ready).context 5).deadline ≠ some 0 := by decide +kernel

theorem witness_SweepChargesEveryEntry :
    ∀ n ∈ [1, 15], (owing n).settled = true ∧ (owing n).nextGrant = some .sweep := by decide +kernel

/-- A settled state and one with a 10-ms tick due; RESET low; the divider below its value in force and at it. -/
theorem witness_TicksAreTakenBeforeAnythingElse :
    Instr.post 0 ∉ [Instr.fullReset, .trunkFault, .faultRelease, .tenMsTick, .deadlineExpiry, .secondTick]
      ∧ ready.pending = [] ∧ ready.settled = true ∧ State.reset.pending = [] ∧ (settle State.reset).resetLow = true
      ∧ (∀ due ∈ [false, true], ∀ count ∈ [7998, 7999],
          let s := ready.setTime { ready.time with tenMsDue := due, dividerCount := count }
          s.pending = [] ∧ s.settled = !due ∧ (settle s).resetLow = false ∧ (settle s).time.dividerCount = count
            ∧ (settle s).time.dividerInForce = 7999) := by decide +kernel

theorem witness_MillisecondAndTenMsTicks :
    State.reset.settled = true ∧ State.reset.resetLow = true ∧ ready.settled = true ∧ ready.resetLow = false
      ∧ ready.time.dividerCount < ready.time.dividerInForce
      ∧ (ready.setTime { ready.time with dividerCount := 7999 }).settled = true
      ∧ ready.time.tenMsDue = false ∧ (ready.setTime { ready.time with tenMsDue := true, secondCount := 99 }).time.tenMsDue = true
      ∧ (ready.setTime { ready.time with tenMsCount := 9 }).settled = true
      ∧ (ready.setLink { ready.link with state := .fault }).settled = true := by decide +kernel

theorem witness_CreateAllocatesALocalEntry :
    let wide := commanding 0x01 [(Offset.tagLength, 16), (Offset.reach, 111), (Offset.visibility, 2)]
    let small := commanding 0x01 [(Offset.tagLength, 1), (Offset.data, 0x41)] (holding localEntry ready)
    servesCommand 0 0x01 (wide ready)
      ∧ servesCommand 0 0x01 (commanding 0x01 [(Offset.tagLength, 17)] ready)
      ∧ ((wide ready).commandSlot 0).dataBytes 16 = List.replicate 16 0
      ∧ ¬tagTaken (List.replicate 16 0) (wide ready) ∧ (wide ready).dir.free = 0 :: allSlots.tail
      ∧ servesCommand 0 0x01 small ∧ tagTaken ((small.commandSlot 0).dataBytes 1) small
      ∧ (wide (ready.setDir { ready.dir with free := [] })).dir.free = []
      ∧ ¬tagTaken (List.replicate 16 0) (wide (ready.setDir { ready.dir with free := [] })) :=
  ⟨by unfold servesCommand; decide +kernel, by unfold servesCommand; decide +kernel, by decide +kernel, no_tag rfl _,
    by decide +kernel, by unfold servesCommand; decide +kernel,
    ⟨0, localEntry, holding_entry localEntry 0, rfl, by decide +kernel⟩, rfl, no_tag rfl _⟩

/-- The cases that AMEND, the attribute edits, RETIRE, READ, READ_ATTR, LOCK and UNLOCK meet behind a handle. -/
theorem witness_handle_cases :
    ready.lookup 0x0100 = none
      ∧ (holding spentEntry ready).lookup 0x0100 = some (0, spentEntry)
      ∧ (holding nodeEntry ready).lookup 0x0100 = some (0, nodeEntry)
      ∧ (holding staleEntry ready).lookup 0x0100 = some (0, staleEntry)
      ∧ (holding (lockedBy9 nodeEntry) ready).lookup 0x0100 = some (0, lockedBy9 nodeEntry)
      ∧ barsHost false (lockedBy9 nodeEntry) = true ∧ barsHost true (lockedBy9 nodeEntry) = false
      ∧ barsNode 5 (lockedBy9 nodeEntry) = true ∧ barsNode 9 (lockedBy9 nodeEntry) = false := by decide +kernel

theorem witness_AmendRewritesTheEntry :
    let s := commanding 0x02 ([(Offset.reach, 111), (Offset.visibility, 2), (Offset.entryFlags, 1)] ++ halfAt Offset.lease 5
      ++ named) (holding staleEntry ready)
    servesCommand 0 0x02 s ∧ s.lookup ((s.commandSlot 0).half Offset.handle) = some (0, staleEntry)
      ∧ reachOf 111 = some (some 111) ∧ visibilityOf 2 = some .closed ∧ reachOf 112 = none ∧ visibilityOf 3 = none
      ∧ servesCommand 0 0x02 (commanding 0x02 [] ready) := by
  unfold servesCommand; decide +kernel

theorem witness_HostAttributeEdits :
    let s := fun code id => commanding code ((Offset.index, id) :: named) (holding nodeEntry ready)
    servesCommand 0 0x03 (s 0x03 1) ∧ servesCommand 0 0x03 (s 0x03 254) ∧ servesCommand 0 0x03 (s 0x03 255)
      ∧ servesCommand 0 0x04 (s 0x04 0) ∧ servesCommand 0 0x04 (s 0x04 1) := by
  unfold servesCommand; decide +kernel

theorem witness_RetireFreesTheEntryAtOnce :
    servesCommand 0 0x05 (commanding 0x05 named (holding nodeEntry ready)) := by unfold servesCommand; decide +kernel

theorem witness_SearchStartClaimsTheLowestIdleContext :
    let s := commanding 0x09 [(Offset.tagLength, 16), (Offset.value, 32)]
    servesCommand 0 0x09 (s ready) ∧ ((s ready).commandSlot 0).byte Offset.value = 32
      ∧ (s ready).searchContext 0 = .idle ∧ (∀ j : Fin 4, j < 0 → (s ready).searchContext j ≠ .idle)
      ∧ servesCommand 0 0x09 (s (searchesFull ready)) ∧ (∀ k : Fin 4, (s (searchesFull ready)).searchContext k ≠ .idle)
      ∧ servesCommand 0 0x09 (commanding 0x09 [(Offset.tagLength, 17), (Offset.value, 33)] ready) := by
  unfold servesCommand; decide +kernel

theorem witness_ResultsReadsASearchContext :
    let s := fun (k first : Byte) => commanding 0x0B [(Offset.state, k), (Offset.index, first)] ready
    servesCommand 0 0x0B (s 3 31) ∧ (((s 3 31).commandSlot 0).byte Offset.state).toNat = (3 : Fin 4).val
      ∧ servesCommand 0 0x0B (s 4 0) ∧ servesCommand 0 0x0B (s 3 32) := by
  unfold servesCommand; decide +kernel

theorem witness_CollectReturnsMarksInRotation :
    servesCommand 0 0x0E (commanding 0x0E [] ready)
      ∧ (∀ i, ((commanding 0x0E [] ready).entryOf i).any (fun e => decide (e.marks ≠ Marks.none_)) = false)
      ∧ servesCommand 0 0x0E (commanding 0x0E [] (holding spentEntry ready))
      ∧ (commanding 0x0E [] (holding spentEntry ready)).entryOf 0 = some spentEntry
      ∧ spentEntry.marks ≠ Marks.none_
      ∧ ∀ j : SlotNo, ¬(j - (commanding 0x0E [] (holding spentEntry ready)).dir.collectCursor - 1).val
          < ((0 : SlotNo) - (commanding 0x0E [] (holding spentEntry ready)).dir.collectCursor - 1).val := by
  refine ⟨by unfold servesCommand; decide +kernel, fun i => ?_, by unfold servesCommand; decide +kernel,
    holding_entry spentEntry 0, by decide, fun j => ?_⟩
  · rw [show (commanding 0x0E [] ready).entryOf i = none from no_entry rfl i]; rfl
  · have : ((0 : SlotNo) - (commanding 0x0E [] (holding spentEntry ready)).dir.collectCursor - 1).val = 0 := by decide +kernel
    omega

theorem witness_ReadForwardReadsAWaitingSeek :
    let s := commanding 0x0F [(Offset.state, 5)]
    servesCommand 0 0x0F (s (waiting 50 ready)) ∧ ((s (waiting 50 ready)).context 5).state = .awaitingHost
      ∧ ((s (waiting 50 ready)).context 5).requester = some 9
      ∧ ((s (waiting 50 ready)).context 5).request = some (.seek 0 0 0 [0x41] 1)
      ∧ servesCommand 0 0x0F (s ready) ∧ ((s ready).context 5).state ≠ .awaitingHost
      ∧ servesCommand 0 0x0F (commanding 0x0F [(Offset.state, 6)] ready) := by
  unfold servesCommand; decide +kernel

theorem witness_AnswerBuildsTheConsentedReply :
    let s := fun ticket => commanding 0x10 [(Offset.state, 5), (Offset.ticket, ticket), (Offset.allow, 1)] (waiting 50 ready)
    servesCommand 0 0x10 (s 33) ∧ ((s 33).context 5).ticket = ((s 33).commandSlot 0).byte Offset.ticket
      ∧ ((s 33).context 5).state = .awaitingHost ∧ ((s 33).context 5).nextCursor = some 15
      ∧ servesCommand 0 0x10 (s 34) ∧ ((s 34).context 5).ticket ≠ ((s 34).commandSlot 0).byte Offset.ticket
      ∧ servesCommand 0 0x10 (commanding 0x10 [(Offset.state, 6)] ready) := by
  unfold servesCommand; decide +kernel

theorem witness_PurgeFreesTheSelectedOrigin :
    ∀ sel ∈ [0x00#8, 0x01#8, 0x03#8, 0x04#8],
      let s := commanding 0x11 [(Offset.selector, sel)] (holding nodeEntry ready)
      servesCommand 0 0x11 s ∧ (s.commandSlot 0).byte Offset.selector = sel := by
  unfold servesCommand; decide +kernel

/-- Each of the nine ids at the ends of its range and next to them, and two ids that name no parameter. -/
theorem witness_SetParamTakesAValueInRange :
    ∀ p ∈ ([(0, 0), (10, 0), (1, 111), (1, 112), (1, 127), (1, 128), (2, 0), (2, 1), (2, 3600), (2, 3601), (3, 9), (3, 10),
        (3, 65535), (4, 0), (4, 255), (4, 256), (5, 0), (5, 1), (5, 255), (6, 1), (6, 256), (7, 998), (7, 999), (7, 39999),
        (7, 40000), (8, 3), (8, 4), (9, 100), (9, 400), (9, 401)] : List (Nat × Nat)),
      let s := commanding 0x12 ((Offset.selector, BitVec.ofNat 8 p.1) :: halfAt Offset.value (BitVec.ofNat 16 p.2)) ready
      servesCommand 0 0x12 s ∧ ((s.commandSlot 0).byte Offset.selector).toNat = p.1
        ∧ ((s.commandSlot 0).half Offset.value).toNat = p.2 := by
  unfold servesCommand; decide +kernel

theorem witness_SearchCancelAndReleaseEndLocalSearches :
    ∀ code ∈ [0x0A#8, 0x0D#8],
      servesCommand 0 code (commanding code [(Offset.state, 4)] ready)
        ∧ ∀ x ∈ [SearchContext.idle, .running localSample, .running trunkSample, .done .filled localSample],
          let s := commanding code [(Offset.state, 3)] (searchAt3 x ready)
          servesCommand 0 code s ∧ s.searchContext 3 = x := by
  unfold servesCommand; decide +kernel

theorem witness_ReadsReturnTheRecordAndItsPairs :
    let e := { nodeEntry with attrs := [⟨1, 0⟩, ⟨2, 0⟩, ⟨3, 0⟩, ⟨4, 0⟩, ⟨5, 0⟩, ⟨254, 7⟩] }
    let s := fun code index => commanding code ((Offset.index, index) :: named) (holding e ready)
    servesCommand 0 0x06 (s 0x06 0) ∧ servesCommand 0 0x06 (commanding 0x06 named ready)
      ∧ servesCommand 0 0x0C (s 0x0C 5) ∧ (s 0x0C 5).lookup 0x0100 = some (0, e) ∧ 5 < e.attrs.length
      ∧ servesCommand 0 0x0C (s 0x0C 6) ∧ nodeEntry.attrs.length ≤ 0
      ∧ servesCommand 0 0x0C (commanding 0x0C named (holding nodeEntry ready)) := by
  unfold servesCommand; decide +kernel

theorem witness_LockAndUnlockOfTheHost :
    let s := fun code hold force => commanding code ([(Offset.hold, hold), (Offset.options, force)] ++ named)
    servesCommand 0 0x07 (s 0x07 0 0 ready) ∧ servesCommand 0 0x07 (s 0x07 255 0 (holding nodeEntry ready))
      ∧ servesCommand 0 0x07 (s 0x07 1 1 (holding (lockedBy9 nodeEntry) ready))
      ∧ servesCommand 0 0x08 (s 0x08 0 0 (holding (lockedBy9 nodeEntry) ready))
      ∧ servesCommand 0 0x08 (s 0x08 0 1 (holding (lockedBy9 nodeEntry) ready))
      ∧ ((s 0x08 0 1 (holding (lockedBy9 nodeEntry) ready)).commandSlot 0).option 0 = true := by
  unfold servesCommand; decide +kernel

theorem witness_FieldWritesAreStoredInAnEmptySlot :
    ready.settled = true ∧ ready.loadEnded = true ∧ ready.port.hrstLow = false ∧ 192 ≤ (0xC0#8).toNat
      ∧ (191#8).toNat = 48 * (3 : Fin 4).val + (47 : Fin 48).val ∧ (42#8).toNat = 48 * (0 : Fin 4).val + (42 : Fin 48).val
      ∧ (ready.commandSlot 0).state = .empty ∧ ((commanding 0x06 [] ready).commandSlot 0).state ≠ .empty := by decide +kernel

/-- Also for PowerWritesSetTheHostState. -/
theorem witness_FlagCauseAndEnableWrites :
    State.reset.settled = true ∧ State.reset.loadEnded = false
      ∧ ready.settled = true ∧ ready.loadEnded = true ∧ ready.port.hrstLow = false := by decide +kernel

theorem witness_WriteTransactionsSpellWindowWrites :
    (List.replicate 7 true).length < 8 ∧ (0x03#8) ≠ 0x02 ∧ 0 < ([0x01] : List Byte).length
      ∧ (∀ a ∈ [0x00#8, 0x02#8, 0xC0#8, 0xC5#8, 0xFF#8],
          (∀ n : Fin 4, a.toNat ≠ 48 * n.val + 1) ∧ a ∉ [0xC1#8, 0xC2#8, 0xC3#8, 0xC4#8])
      ∧ ready.resetLow = false ∧ ready.port.hrstLow = false ∧ ready.port.transaction = none
      ∧ State.reset.resetLow = true ∧ hostHeld.port.hrstLow = true := by decide +kernel

theorem witness_ControlWritesActByTheSlotState :
    State.reset.settled = true ∧ State.reset.loadEnded = false ∧ hostHeld.settled = true ∧ hostHeld.port.hrstLow = true
      ∧ ready.settled = true ∧ ready.loadEnded = true ∧ ready.port.hrstLow = false
      ∧ (ready.commandSlot 0).state = .empty ∧ ((commanding 0x06 [] ready).commandSlot 0).state = .posted
      ∧ ((after .unknownCommand (commanding 0x13 [] ready)).commandSlot 0).state = .done := by decide +kernel

theorem witness_WindowShowsTheState :
    ready.settled = true
      ∧ (∀ a ∈ [0xC9#8, 0xCF#8, 0xDD#8, 0xDF#8, 0xEC#8, 0xFF#8],
          (0xC9 ≤ a.toNat ∧ a.toNat ≤ 0xCF) ∨ (0xDD ≤ a.toNat ∧ a.toNat ≤ 0xDF) ∨ 0xEC ≤ a.toNat)
      ∧ (191#8).toNat = 48 * (3 : Fin 4).val + (47 : Fin 48).val := by decide +kernel

/-- For the transactions: a READ at the end of its address byte at D0h and DFh, and one inside a group captured whole. -/
theorem witness_WindowShowsTheState_read :
    ready.settled = true ∧ ready.resetLow = false ∧ ready.port.hrstLow = false ∧ ready.port.transaction = none
      ∧ (0x02#8) ≠ 0x03 ∧ (0x00#8) ≠ 0x03
      ∧ ∀ a ∈ [0xD0#8, 0xDF#8], ∀ held ∈ [([] : List Byte), [0x55]],
          let t : Transaction := { Transaction.begun with opcode := some 0x03, address := some a, held := held }
          (ready.setTransaction (some t)).port.transaction = some t ∧ t.opcode = some 0x03 ∧ t.address = some a
            ∧ t.gathered = [] ∧ t.held = held := by decide +kernel

theorem witness_WindowShowsTheState_freeList : freeListInv ready := by
  have free : ready.dir.free = allSlots := by simp only [ready, State.reset, Directory.reset]
  unfold freeListInv
  rw [free]
  unfold allSlots
  exact ⟨List.nodup_finRange 256, fun i => ⟨fun _ => no_entry rfl i, fun _ => List.mem_finRange i⟩⟩

theorem witness_AnnounceCreatesANewEntry :
    let s := requesting 5 0x01 [1, 0x41, 0, 1, 0, 1]
    servesRequest 0 5 0x01 [1, 0x41, 0, 1, 0, 1] (s ready)
      ∧ parseRequest 0x01 [1, 0x41, 0, 1, 0, 1] = some (.announce [0x41] 0 1 1)
      ∧ ¬tagTaken [0x41] (s ready) ∧ (s ready).dir.free = 0 :: allSlots.tail
      ∧ ¬tagTaken [0x41] (s (ready.setDir { ready.dir with free := [] }))
      ∧ parseRequest 0x01 [0, 0, 2, 0, 0] = some (.announce [] 0 2 0) :=
  ⟨by unfold servesRequest; decide +kernel, by decide, no_tag rfl _, by decide +kernel, no_tag rfl _, by decide⟩

/-- Also for AnnounceTakesOverAStaleEntry, with `staleEntry` and a requester other than 5. -/
theorem witness_AnnounceMeetsAHeldTag :
    ∀ e ∈ [localEntry, nodeEntry, staleEntry, lockedBy9 staleEntry], ∀ m ∈ [5#8, 6#8],
      let s := requesting m 0x01 [1, 0x41, 0, 1, 0, 1] (holding e ready)
      servesRequest 0 m 0x01 [1, 0x41, 0, 1, 0, 1] s ∧ visibilityOf 1 = some .guarded
        ∧ s.entryOf 0 = some e ∧ e.countsForTag = true ∧ e.tag = [0x41] ∧ (0 : SlotNo) ∉ s.dir.free
        ∧ (∀ j d, s.entryOf j = some d → d.countsForTag = true → d.tag = [0x41] → j = 0) := by
  intro e he m hm
  have first : servesRequest 0 m 0x01 [1, 0x41, 0, 1, 0, 1] (requesting m 0x01 [1, 0x41, 0, 1, 0, 1] (holding e ready)) := by
    unfold servesRequest
    simp only [List.mem_cons, List.not_mem_nil, or_false] at he hm
    rcases he with rfl | rfl | rfl | rfl <;> rcases hm with rfl | rfl <;> decide +kernel
  have counts : e.countsForTag = true ∧ e.tag = [0x41] := by
    simp only [List.mem_cons, List.not_mem_nil, or_false] at he
    rcases he with rfl | rfl | rfl | rfl <;> decide
  have free : (0 : SlotNo) ∉ allSlots.tail := by decide +kernel
  refine ⟨first, by decide, holding_entry e 0, counts.1, counts.2, free, fun j d h _ _ => ?_⟩
  have h' : (holding e ready).entryOf j = some d := h
  rw [holding_entry e j] at h'
  by_cases hj : j = 0
  · exact hj
  · simp [hj] at h'

/-- For RefreshRestartsTheLease, WithdrawRetiresTheOwnEntry, FetchTellsADescription, NodeAttributeEdits,
ClaimSetsOrRenewsTheNodesLock and YieldReleasesTheNodesLock: a request of each kind is served, with an entry of each case
behind its handle (witness_handle_cases gives the lookups). -/
theorem witness_NodeRequests :
    ∀ e ∈ [localEntry, nodeEntry, staleEntry, spentEntry, lockedBy9 nodeEntry],
      (∀ kind ∈ [0x02#8, 0x03#8, 0x05#8, 0x09#8],
          servesRequest 0 5 kind (halfBytes 0x0100) (requesting 5 kind [1, 0] (holding e ready)))
        ∧ servesRequest 0 5 0x06 (halfBytes 0x0100 ++ 254 :: halfBytes 3) (requesting 5 0x06 [1, 0, 254, 0, 3] (holding e ready))
        ∧ servesRequest 0 5 0x07 (halfBytes 0x0100 ++ [1]) (requesting 5 0x07 [1, 0, 1] (holding e ready))
        ∧ (∀ hold ∈ [0x00#8, 0x01#8, 0xFF#8],
          servesRequest 0 5 0x08 (halfBytes 0x0100 ++ [hold]) (requesting 5 0x08 [1, 0, hold] (holding e ready))) := by
  unfold servesRequest; decide +kernel

theorem witness_SeekClaimsASearchContext :
    let s := requesting 9 0x04 [0, 0, 0, 1, 0x41, 0, 1]
    servesRequest 0 9 0x04 [0, 0, 0, 1, 0x41, 0, 1] (s ready)
      ∧ parseRequest 0x04 [0, 0, 0, 1, 0x41, 0, 1] = some (.seek 0 0 0 [0x41] 1)
      ∧ (s ready).searchContext 0 = .idle ∧ (∀ j : Fin 4, j < 0 → (s ready).searchContext j ≠ .idle)
      ∧ servesRequest 0 9 0x04 [0, 0, 0, 1, 0x41, 0, 1] (s (searchesFull ready))
      ∧ (∀ k : Fin 4, (s (searchesFull ready)).searchContext k ≠ .idle)
      ∧ parseRequest 0x04 [0, 0, 0, 0, 0, 1] = some (.seek 0 0 0 [] 1) := by
  unfold servesRequest; decide +kernel

theorem witness_UnnamedCodeAndMalformedRequestAreBadParam :
    servesCommand 0 0x00 (commanding 0x00 [] ready) ∧ servesCommand 0 0x13 (commanding 0x13 [] ready)
      ∧ 0x12 < (0x13#8).toNat ∧ servesRequest 0 9 0x0A [1, 0] (requesting 9 0x0A [1, 0] ready)
      ∧ parseRequest 0x0A [1, 0] = none ∧ parseRequest 0x02 [1, 0, 0] = none := by
  unfold servesCommand servesRequest; decide +kernel

theorem witness_WrittenRequestIsReadBack :
    let r := Request.announce (List.replicate 255 0) 0 0 0
    (∀ tag cls vis lease, r = .announce tag cls vis lease → tag.length ≤ 255)
      ∧ (∀ start options cls pattern mask, r = .seek start options cls pattern mask → pattern.length ≤ 255) :=
  ⟨fun _ _ _ _ h => by cases h; exact Nat.le_of_eq List.length_replicate, fun _ _ _ _ _ h => by cases h⟩

theorem witness_LineConditionsBeginAndEndFrames :
    ready.settled = true ∧ ready.resetLow = false ∧ ready.link.state = .idle
      ∧ (sendingAt 2).settled = true ∧ (sendingAt 2).link.state = .busy ∧ (sendingAt 2).link.receiver = .destination
      ∧ (sendingAt 2).link.transmitter = some { context := 0, sent := 2 }
      ∧ ∀ r ∈ [Receiver.destination, .frame 0 .check, .frame 0 .complete],
        (linkAt r ready).settled = true ∧ (linkAt r ready).link.state = .busy ∧ (linkAt r ready).link.receiver = r := by
  decide +kernel

/-- The destination byte with an IDLE context and without one; every part of a frame. -/
theorem witness_ReceivedBytesAreJudged :
    ready.settled = true ∧ ready.link.state ≠ .busy ∧ (sendingAt 2).settled = true ∧ (sendingAt 2).link.transmitter ≠ none ∧
    (linkAt .destination ready).link.latchedDir = some 112 ∧ (linkAt .destination ready).link.afterLoad = true
      ∧ ((linkAt .destination ready).context 0).state = .idle
      ∧ (∀ d : Fin 6, d < 0 → ((linkAt .destination ready).context d).state ≠ .idle)
      ∧ ∀ r ∈ [Receiver.waiting, .ignoring, .destination, .frame 5 .source, .frame 5 .kind, .frame 5 .tag, .frame 5 .length,
          .frame 5 (.payload 1), .frame 5 (.payload 40), .frame 5 .check, .frame 5 .complete],
        (linkAt r ready).settled = true ∧ (linkAt r ready).link.state = .busy ∧ (linkAt r ready).link.transmitter = none
          ∧ (linkAt r ready).link.receiver = r := by decide +kernel

theorem witness_WholeFrameIsReceived :
    ready.settled = true ∧ ready.loadEnded = true ∧ ready.link.state = .idle ∧ ready.link.transmitter = none
      ∧ (ready.context 0).state = .idle ∧ (∀ d : Fin 6, d < 0 → (ready.context d).state ≠ .idle)
      ∧ 1 ≤ (111#8).toNat ∧ (111#8).toNat ≤ 111 ∧ (List.replicate 40 (0 : Byte)).length ≤ 40 := by decide +kernel

theorem witness_RepliesAreSentByteByByte :
    replying.settled = true ∧ replying.resetLow = false ∧ replying.link.state = .idle ∧ replying.link.transmitter = none
      ∧ replying.trunk.ready = 0 :: []
      ∧ (let frame := replyFrame 9 112 7 { kind := 0x83, code := .ok, body := [] }
        frame.length = 7 ∧ (frame.getD 0 0).getLsbD 0 = true ∧ (frame.getD 0 0).getLsbD 1 = false)
      ∧ ∀ sent ∈ [0, 5, 6],
        (sendingAt sent).settled = true ∧ (sendingAt sent).link.transmitter = some { context := 0, sent := sent }
          ∧ (sendingAt sent).link.latchedDir = some 112 ∧ ((sendingAt sent).context 0).requester = some 9
          ∧ ((sendingAt sent).context 0).tag = some 7
          ∧ ((sendingAt sent).context 0).reply = some { kind := 0x83, code := .ok, body := [] } := by decide +kernel

theorem witness_TrunkFaultAndItsRelease :
    let low := fun n : Nat => ready.setLink { ready.link with tkdLow := n }
    let fault := fun b : Bool => ready.setLink { ready.link with state := .fault, bothHigh := b }
    (low 25).link.state ≠ .fault ∧ 25 ≤ (low 25).link.tkdLow ∧ (low 24).link.tkdLow < 25 ∧ (low 24).link.tkcLow < 25
      ∧ (fault true).link.state = .fault ∧ (fault true).link.bothHigh = true ∧ (fault false).link.bothHigh = false := by
  decide +kernel

theorem witness_SearchStepWalksTheSlots :
    ∀ r ∈ [localSample, { localSample with burst := true }, { localSample with cursor := 255, limit := 32 }, trunkSample],
      (searching r ready).settled = true ∧ (searching r ready).nextGrant = some .search
        ∧ (searching r ready).nextSearch = some 0 ∧ (searching r ready).searchContext 0 = .running r
        ∧ r.cursor < 256 ∧ r.results.length < r.limit := by decide +kernel

/-- One open item, and one guarded item whose entry has WAKE on. -/
theorem witness_SeekEndDecidesTheReply :
    ∀ v ∈ [Visibility.open_, .guarded],
      let s := searching trunkSample ((holding { nodeEntry with visibility := v } ready).setContext 0
        { TrunkContext.idleWith 1 with state := .serving, requester := some 9, linked := some 0 })
      s.settled = true ∧ s.nextGrant = some .search ∧ s.nextSearch = some 0 ∧ s.searchContext 0 = .running trunkSample
        ∧ walk s 16 trunkSample = ({ trunkSample with cursor := 256 }, some .complete)
        ∧ (s.context 0).requester = some 9
        ∧ (revalidated s 0x0100) = some (0, { nodeEntry with visibility := v }) := by decide +kernel

theorem witness_EveryStepKeepsTheHostSideSound :
    let s := commanding 0x06 [] ready
    wakeFlagInv s ∧ dozeInv s ∧ s.port.postOrder.Nodup ∧ (∀ n, n ∈ s.port.postOrder ↔ (s.commandSlot n).state = .posted)
      ∧ pinsInv s ∧ pinsInv (hselFall s) ∧ (hselFall s).port.transaction ≠ none := by
  unfold wakeFlagInv dozeInv pinsInv; decide +kernel

theorem witness_EveryStepKeepsTheRanges : rangesInv (owing 15) := by
  have deadlines : ∀ c : Fin 6, ((owing 15).context c).deadline = none := by decide +kernel
  refine ⟨by decide +kernel, by decide, by decide, by decide, by decide, by decide, by decide, by decide, by decide, by decide,
    by decide, by decide, by decide, fun c d h => ?_⟩
  simp [deadlines c] at h

theorem witness_EveryStepKeepsTheDirectoryLaw : directoryInv (holding nodeEntry ready) := by
  have free : (holding nodeEntry ready).dir.free = (List.finRange 255).map Fin.succ := by
    have h : (holding nodeEntry ready).dir.free = allSlots.tail := rfl
    rw [h, allSlots, List.finRange_succ, List.tail_cons]
  have one : ∀ i e, (holding nodeEntry ready).entryOf i = some e → i = 0 ∧ e = nodeEntry := by
    intro i e h
    rw [holding_entry] at h
    by_cases hi : i = 0
    · simp [hi] at h; exact ⟨hi, h.symm⟩
    · simp [hi] at h
  refine ⟨⟨?_, fun i => ?_⟩, fun i h => ?_, fun i j d e hi hj _ _ _ => ?_, fun i e h => ?_, by decide +kernel, by decide⟩
  · rw [show (holding nodeEntry ready).dir.free = allSlots.tail from rfl]
    exact List.Pairwise.tail (List.nodup_finRange 256)
  · rw [free, holding_entry]
    by_cases hi : i = 0
    · subst hi; simp [Fin.succ_ne_zero]
    · simp only [hi, if_false, List.mem_map, List.mem_finRange, true_and, iff_true]
      exact ⟨i.pred hi, Fin.succ_pred i hi⟩
  · obtain ⟨e, he⟩ := Option.ne_none_iff_exists'.mp h
    rw [(one i e he).1]
    decide +kernel
  · rw [(one i d hi).1, (one j e hj).1]
  · rw [(one i e h).2]
    refine ⟨by decide, by decide, ⟨?_, ?_⟩, by unfold Entry.attrsOk; decide, by decide, ?_, by decide, by decide⟩
    · intro n hn; cases hn; decide
    · exact ⟨by decide, 20, rfl, by decide⟩
    · intro k hk; cases hk

theorem witness_EveryStepKeepsTheSearchesSound : searchInv (searching localSample ready) := by
  have others : ∀ k : Fin 4, (searching localSample ready).searchContext k = if k = 0 then .running localSample else .idle := by
    decide +kernel
  have sound : localSample.ok :=
    ⟨by decide, by decide, by decide, by decide, by decide, List.Pairwise.nil, fun _ x => (nomatch x), fun x => absurd rfl x⟩
  intro k
  rw [others k]
  by_cases h : k = 0
  · rw [if_pos h]
    exact ⟨sound, by decide, by decide⟩
  · rw [if_neg h]
    trivial

theorem witness_EveryStepKeepsTheTrunkLaw : trunkInv (requesting 9 0x2A [] ready) := by
  have idle : ∀ k : Fin 4, (requesting 9 0x2A [] ready).searchContext k = .idle := by decide +kernel
  have states : ∀ c : Fin 6, ((requesting 9 0x2A [] ready).context c).state = if c = 0 then .received else .idle := by
    decide +kernel
  refine ⟨⟨by decide, by decide +kernel, by decide, by decide +kernel⟩, ⟨fun c k => ?_, fun c h => ?_, fun k code r h => ?_⟩,
    ⟨fun c => ?_, fun c => ?_, fun _ => ⟨rfl, rfl⟩, fun h => absurd rfl h⟩⟩
  · rw [states c, idle k]
    by_cases h : c = 0 <;> simp [h]
  · rw [states c] at h
    by_cases h' : c = 0 <;> simp [h'] at h
  · exact absurd ((idle k).symm.trans h) (by simp)
  · rw [states c, show (requesting 9 0x2A [] ready).link.receiver = .waiting from rfl]
    by_cases h : c = 0 <;> simp [h]
  · rw [states c, show (requesting 9 0x2A [] ready).link.transmitter = none from rfl]
    by_cases h : c = 0 <;> simp [h]

end Sys2Proof.Tests
end

section
/-! PROOFS. Facts that the directory operations share: what a grant leaves of the directory, handles and tags, field
encodings, frames put together, marks offered one after another. -/

namespace Sys2Proof.Proofs

open Sys2Proof.Machine Sys2Proof.Laws

variable {s t u : State}

/-! ## What a grant leaves for the operation it serves -/

@[simp] theorem lookup_takeCommand (h : Handle) : (takeCommand s).lookup h = s.lookup h := rfl

@[simp] theorem lookup_takeRequest (h : Handle) : (takeRequest s).lookup h = s.lookup h := rfl

/-- The row of a served command performs it and finishes the slot. -/
theorem commandGrant_isCode {n : Fin 4} {code : Byte} (perform : CommandSlot → State → Completion)
    (h : servesCommand n code s) :
    commandGrant (isCode code) perform (settle s) = finishCommand n (perform (s.commandSlot n) (takeCommand s)) :=
  commandGrant_of_serves s _ _ h (by simp [isCode])

/-! ## Handles (R5) -/

theorem toNat_half (hi lo : Byte) : (half hi lo).toNat = hi.toNat * 256 + lo.toNat := by
  have := hi.isLt
  have := lo.isLt
  simp only [half, BitVec.toNat_ofNat]
  omega

/-- A 16-bit field is read back from its two bytes. -/
@[simp] theorem half_hiByte_loByte (h : Half) : half (hiByte h) (loByte h) = h := by
  apply BitVec.eq_of_toNat_eq
  have := h.isLt
  simp only [toNat_half, hiByte, loByte, BitVec.toNat_ofNat]
  omega

theorem toNat_mkHandle (g : Byte) (i : SlotNo) : (mkHandle g i).toNat = g.toNat * 256 + i.val := by
  have := g.isLt
  have := i.isLt
  simp only [mkHandle, BitVec.toNat_ofNat]
  omega

/-- A handle names slot `i` under generation `g` exactly when it is `g` × 256 + `i`. -/
theorem handle_names_iff (h : Handle) (g : Byte) (i : SlotNo) :
    (handleSlot h = i ∧ g = handleGeneration h) ↔ h.toNat = g.toNat * 256 + i.val := by
  have := h.isLt
  have := g.isLt
  have := i.isLt
  simp only [handleSlot, Fin.ext_iff, handleGeneration, hiByte, ← BitVec.toNat_inj, BitVec.toNat_ofNat]
  omega

/-- R5: a handle is valid exactly when its generation is that of its slot and the slot is not FREE. -/
theorem lookup_eq_some_iff (h : Handle) (i : SlotNo) (e : Entry) :
    s.lookup h = some (i, e) ↔ h.toNat = (s.slot i).generation.toNat * 256 + i.val ∧ s.entryOf i = some e := by
  rw [← handle_names_iff]
  unfold State.lookup
  constructor
  · intro hl
    split at hl
    next hg =>
      obtain ⟨d, hd, heq⟩ := Option.map_eq_some_iff.mp hl
      obtain ⟨rfl, rfl⟩ := Prod.mk.inj heq
      exact ⟨⟨rfl, hg⟩, hd⟩
    next => cases hl
  · rintro ⟨⟨rfl, hg⟩, he⟩
    simp [hg, he]

/-! ## Tags (R9) -/

/-- What `findTag` answers is a LIVE or STALE entry with the tag. -/
theorem entryOf_of_findTag {tag : List Byte} {i : SlotNo} {e : Entry} (h : s.findTag tag = some (i, e)) :
    s.entryOf i = some e ∧ e.countsForTag = true ∧ e.tag = tag := by
  obtain ⟨j, -, hj⟩ := List.exists_of_findSome?_eq_some h
  split at hj
  next d hd =>
    split at hj
    next ok =>
      obtain ⟨rfl, rfl⟩ := Prod.mk.inj (Option.some.inj hj)
      exact ⟨hd, ok⟩
    next => cases hj
  next => cases hj

theorem findTag_eq_none_iff (tag : List Byte) : s.findTag tag = none ↔ ¬tagTaken tag s := by
  simp only [State.findTag, List.findSome?_eq_none_iff, tagTaken, not_exists, not_and]
  constructor
  · intro h i e he hc ht
    have := h i (List.mem_finRange i)
    simp [he, hc, ht] at this
  · intro h i _
    cases he : s.entryOf i with
    | none => rfl
    | some e => simpa using h i e he

/-- Where one LIVE or STALE entry alone has a tag, `findTag` answers it. -/
theorem findTag_of_unique {tag : List Byte} {i : SlotNo} {e : Entry} (he : s.entryOf i = some e)
    (hc : e.countsForTag = true) (ht : e.tag = tag)
    (unique : ∀ j d, s.entryOf j = some d → d.countsForTag = true → d.tag = tag → j = i) :
    s.findTag tag = some (i, e) := by
  cases hf : s.findTag tag with
  | none => exact absurd ⟨i, e, he, hc, ht⟩ ((findTag_eq_none_iff tag).mp hf)
  | some p =>
    obtain ⟨j, d⟩ := p
    obtain ⟨hd, hdc, hdt⟩ := entryOf_of_findTag hf
    obtain rfl := unique j d hd hdc hdt
    rw [Option.some.inj (hd.symm.trans he)]

/-! ## Field encodings (12.1) -/

/-- R11: a reach field above 111 is out of range. -/
theorem reachOf_eq_none_iff (b : Byte) : reachOf b = none ↔ 111 < b.toNat := by
  have node : isNode b = true ↔ 1 ≤ b.toNat ∧ b.toNat ≤ 111 := by simp [isNode]
  unfold reachOf
  split
  next zero => simp [zero]
  next nonzero =>
    have : b.toNat ≠ 0 := fun hz => nonzero (BitVec.eq_of_toNat_eq hz)
    split
    next inside =>
      have := node.mp inside
      simp only [reduceCtorEq, false_iff]
      omega
    next outside =>
      have := mt node.mpr outside
      simp only [true_iff]
      omega

/-- R11: a reach field in range is written back as it was read. -/
theorem reachByte_of_reachOf {b : Byte} {r : Option Byte} (h : reachOf b = some r) : reachByte r = b := by
  unfold reachOf at h
  split at h
  next hz => cases h; exact hz.symm
  next =>
    split at h
    · cases h; rfl
    · cases h

/-- R12: a visibility field above 2 is out of range. -/
theorem visibilityOf_eq_none_iff (b : Byte) : visibilityOf b = none ↔ 2 < b.toNat := by
  unfold visibilityOf
  split
  next h => simp [h]
  next not0 =>
    split
    next h => simp [h]
    next not1 =>
      split
      next h => simp [h]
      next not2 =>
        have : b.toNat ≠ 0 := fun h => not0 (BitVec.eq_of_toNat_eq h)
        have : b.toNat ≠ 1 := fun h => not1 (BitVec.eq_of_toNat_eq h)
        have : b.toNat ≠ 2 := fun h => not2 (BitVec.eq_of_toNat_eq h)
        simp only [true_iff]
        omega

/-- R12: a visibility field in range is written back as it was read. -/
theorem toByte_of_visibilityOf {b : Byte} {v : Visibility} (h : visibilityOf b = some v) : v.toByte = b := by
  unfold visibilityOf at h
  split at h
  next hb => cases h; exact hb.symm
  next =>
    split at h
    next hb => cases h; exact hb.symm
    next =>
      split at h
      next hb => cases h; exact hb.symm
      next => cases h

/-- A field of visibility OPEN or GUARDED is at most 1. -/
theorem toNat_le_one_iff_ne_closed {b : Byte} {v : Visibility} (h : visibilityOf b = some v) :
    b.toNat ≤ 1 ↔ v ≠ .closed := by
  rw [← toByte_of_visibilityOf h]
  cases v <;> decide

/-! ## Locks and states -/

theorem isSpent_iff (l : Life) : l.isSpent = true ↔ l = .spent := by cases l <;> simp [Life.isSpent]

/-- R12: CLOSED hides an entry from a node. -/
theorem closedTo_node_iff (n : Byte) (e : Entry) : closedTo (.node n) e = true ↔ e.visibility = .closed := by
  simp [closedTo]

/-- R7: a node acts only on the entry it owns. -/
theorem not_ownedBy_node_iff (n : Byte) (e : Entry) : (!ownedBy (.node n) e) = true ↔ e.origin ≠ .trunk n := by
  simp [ownedBy]

/-- R31: what bars the host is a lock of another holder than LOCAL, without FORCE. -/
theorem lockBars_loc (force : Bool) (e : Entry) : lockBars .loc force e = barsHost force e := by
  unfold lockBars barsHost
  cases e.lock <;> simp

/-- R31: what bars a node is a lock of another holder. -/
theorem lockBars_node (n : Byte) (e : Entry) : lockBars (.node n) false e = barsNode n e := by
  unfold lockBars barsNode
  cases e.lock <;> simp

/-! ## Frames put together -/

theorem keepsBut_mono {a b : List Block} (h : keepsBut a s t) (sub : a ⊆ b) : keepsBut b s t :=
  ⟨h.1, fun k hk => h.2 k (fun ha => hk (sub ha))⟩

theorem keepsBut_trans {a : List Block} (h : keepsBut a s t) (k : keepsBut a t u) : keepsBut a s u := by
  refine ⟨k.1.trans h.1, fun b hb => ?_⟩
  have hst := h.2 b hb
  have htu := k.2 b hb
  cases b <;> exact htu.trans hst

theorem keepsBut_refl (a : List Block) : keepsBut a s s := ⟨rfl, fun b _ => by cases b <;> rfl⟩

/-- The blocks that an operation on an entry, with the marks it gives, may change. -/
def entryBlocks : List Block := [.dir, .notify, .doze]

theorem takeCommand_keeps : keepsBut [.arb, .port] s (takeCommand s) :=
  ⟨rfl, fun b hb => by cases b <;> first | rfl | simp at hb⟩

theorem takeRequest_keeps : keepsBut [.arb, .trunk] s (takeRequest s) :=
  ⟨rfl, fun b hb => by cases b <;> first | rfl | simp at hb⟩

/-- A state whose directory was replaced differs in the directory alone. -/
theorem keepsBut_setDir (d : Directory) : keepsBut [.dir] s (s.setDir d) :=
  ⟨rfl, fun b hb => by cases b <;> first | rfl | simp at hb⟩

theorem keepsBut_setEntry (i : SlotNo) (e : Entry) : keepsBut [.dir] s (s.setEntry i e) := keepsBut_setDir _

theorem keepsBut_freeSlot (i : SlotNo) : keepsBut [.dir] s (freeSlot i s) := keepsBut_setDir _

theorem keepsBut_addMark (i : SlotNo) (m : Mark) : keepsBut entryBlocks s (addMark i m s) := by
  obtain ⟨hp, harb, hsearch, htime, hlink, htrunk, hport, hloader, hparams⟩ := addMark_blocks s i m
  refine ⟨hp, fun b hb => ?_⟩
  cases b <;> first | assumption | simp [entryBlocks] at hb

theorem keepsBut_retireSide (i : SlotNo) (e : Entry) : keepsBut entryBlocks s (retireSide i e s) := by
  obtain ⟨hp, harb, hsearch, htime, hlink, htrunk, hport, hloader, hparams⟩ := retireSide_blocks s i e
  refine ⟨hp, fun b hb => ?_⟩
  cases b <;> first | assumption | simp [entryBlocks] at hb

theorem keepsBut_allocate {e : Entry} {i : SlotNo} (h : allocate e s = some (t, i)) : keepsBut [.dir] s t := by
  obtain ⟨-, -, -, -, ht⟩ := allocate_spec s e t i h
  rw [ht]
  exact keepsBut_setDir _

/-- A change of the directory alone is one of the blocks of an entry operation. -/
theorem keepsBut_entryBlocks (h : keepsBut [.dir] s t) : keepsBut entryBlocks s t :=
  keepsBut_mono h (by simp [entryBlocks])

/-- Whether a wake event would be captured depends on doze control alone. -/
theorem captures_congr (h : t.doze = s.doze) : t.captures = s.captures := by simp only [State.captures, h]

theorem rewritesEntry_congr {i : SlotNo} {e : Entry} {s' t' : State} (h : rewritesEntry i e s t)
    (hs : s'.dir = s.dir) (ht : t'.dir = t.dir) : rewritesEntry i e s' t' := by
  simpa only [rewritesEntry, keepsSlotsBut, State.slot, hs, ht] using h

/-- An entry rewritten twice is rewritten with what was written last. -/
theorem rewritesEntry_trans {i : SlotNo} {d e : Entry} (h : rewritesEntry i d s t) (k : rewritesEntry i e t u) :
    rewritesEntry i e s u := by
  obtain ⟨hi, ⟨hother, hcursor⟩, hfree⟩ := h
  obtain ⟨ki, ⟨kother, kcursor⟩, kfree⟩ := k
  refine ⟨by rw [ki, hi], ⟨fun j hj => (kother j hj).trans (hother j hj), kcursor.trans hcursor⟩, kfree.trans hfree⟩

theorem entryOf_of_rewrites {i : SlotNo} {e : Entry} (h : rewritesEntry i e s t) : t.entryOf i = some e := by
  rw [State.entryOf, h.1]

theorem handleOf_of_rewrites {i : SlotNo} {e : Entry} (h : rewritesEntry i e s t) : t.handleOf i = s.handleOf i := by
  rw [State.handleOf, h.1]; rfl

theorem setsFlags_congr_states {set : List Flag} {s' t' : State} (h : setsFlags set s t)
    (hs : s'.notify = s.notify) (ht : t'.notify = t.notify) : setsFlags set s' t' := by
  simpa only [setsFlags, State.flag, hs, ht] using h

/-! ## Marks offered one after another (R161, R162, R178) -/

/-- What a mark does beside the entry, in the words of `marksAndWakes`: `new` says that the reason is a new mark, `wake`
that the entry has WAKE on, `h` is its handle. -/
def markEvents (new wake : Bool) (h : Handle) (s t : State) : Prop :=
  let woken := new && wake && s.captures
  setsFlags ((if new then [.mark] else []) ++ (if woken then [.wake] else [])) s t
    ∧ t.doze = (if woken then { s.doze with record := some (.mark h) } else s.doze)

theorem markEvents_iff {m : Mark} {e : Entry} {h : Handle} :
    marksAndWakes [] m e h s t ↔ markEvents (e.watch && !e.marks.has m) e.wake h s t := Iff.rfl

/-- An event that leaves the notification unit and doze control gives no mark. -/
theorem markEvents_of_same (wake : Bool) (h : Handle) (hn : t.notify = s.notify) (hd : t.doze = s.doze) :
    markEvents false wake h s t :=
  ⟨by simpa using setsFlags_of_same hn, by simpa using hd⟩

theorem markEvents_false_iff {wake : Bool} {h : Handle} :
    markEvents false wake h s t ↔ setsFlags [] s t ∧ t.doze = s.doze := by simp [markEvents]

theorem markEvents_congr {new wake : Bool} {h : Handle} {s' t' : State} (k : markEvents new wake h s t)
    (hsn : s'.notify = s.notify) (hsd : s'.doze = s.doze) (htn : t'.notify = t.notify) (htd : t'.doze = t.doze) :
    markEvents new wake h s' t' := by
  obtain ⟨hf, hd⟩ := k
  refine ⟨?_, ?_⟩
  · rw [captures_congr hsd]
    exact setsFlags_congr_states hf hsn htn
  · rw [captures_congr hsd, htd, hsd]
    exact hd

/-- Two marks, one after the other: MARK is set if one is new, and the first wake event taken is the one captured. -/
theorem markEvents_trans {a wa b wb : Bool} {ha hb : Handle} (h : markEvents a wa ha s t) (k : markEvents b wb hb t u) :
    let byFirst := a && wa && s.captures
    let bySecond := b && wb && s.captures
    setsFlags ((if a || b then [.mark] else []) ++ (if byFirst || bySecond then [.wake] else [])) s u
      ∧ u.doze = (if byFirst then { s.doze with record := some (.mark ha) }
          else if bySecond then { s.doze with record := some (.mark hb) } else s.doze) := by
  intro byFirst bySecond
  obtain ⟨hf, hd⟩ := h
  obtain ⟨kf, kd⟩ := k
  cases first : byFirst with
  | true =>
    have hdoze : t.doze = { s.doze with record := some (.mark ha) } := by
      rw [hd]; exact if_pos first
    have taken : t.captures = false := by simp [State.captures, hdoze]
    refine ⟨setsFlags_congr (setsFlags_trans hf kf) (fun f => ?_), ?_⟩
    · have : (a && wa && s.captures) = true := first
      simp only [this, taken, Bool.and_false, List.mem_append]
      cases a <;> cases b <;> cases f <;> simp
    · rw [kd, hdoze]
      simp [taken]
  | false =>
    have hdoze : t.doze = s.doze := by
      rw [hd]; exact if_neg (Bool.eq_false_iff.mp first)
    refine ⟨setsFlags_congr (setsFlags_trans hf kf) (fun f => ?_), ?_⟩
    · have : (a && wa && s.captures) = false := first
      simp only [this, captures_congr hdoze, bySecond]
      cases a <;> cases b <;> simp
    · rw [kd, captures_congr hdoze, hdoze]
      simp [bySecond]

/-- Two marks on one entry act as one. -/
theorem markEvents_trans_same {a b wake : Bool} {h : Handle} (ha : markEvents a wake h s t)
    (hb : markEvents b wake h t u) : markEvents (a || b) wake h s u := by
  obtain ⟨hf, hd⟩ := markEvents_trans ha hb
  have hor : ((a || b) && wake && s.captures) = (a && wake && s.captures || b && wake && s.captures) := by
    cases a <;> cases b <;> simp
  refine ⟨by rw [hor]; exact hf, ?_⟩
  rw [hd, hor]
  cases a && wake && s.captures <;> simp

/-- A mark offered to the entry in slot `i`, or not. -/
theorem addMark_if (offered : Bool) (i : SlotNo) (m : Mark) {d : Entry} (hd : s.entryOf i = some d) :
    let t := if offered then addMark i m s else s
    rewritesEntry i (if offered then d.marked m else d) s t
      ∧ markEvents (offered && (d.watch && !d.marks.has m)) d.wake (s.handleOf i) s t
      ∧ keepsBut entryBlocks s t := by
  cases offered with
  | true =>
    obtain ⟨written, events⟩ := addMark_effect s i m d hd
    exact ⟨written, markEvents_iff.mp events, keepsBut_addMark i m⟩
  | false =>
    have held : s.slot i = { s.slot i with entry := some d } := by rw [← hd]; rfl
    exact ⟨⟨held, ⟨fun _ _ => rfl, rfl⟩, rfl⟩, markEvents_of_same _ _ rfl rfl, keepsBut_refl _⟩

/-- An entry is rewritten and, if `offered`, a mark offered to it. -/
theorem setEntry_addMark_if (offered : Bool) (i : SlotNo) (m : Mark) (d : Entry) :
    let t := if offered then addMark i m (s.setEntry i d) else s.setEntry i d
    rewritesEntry i (if offered then d.marked m else d) s t
      ∧ markEvents (offered && (d.watch && !d.marks.has m)) d.wake (s.handleOf i) s t
      ∧ keepsBut entryBlocks s t := by
  obtain ⟨written, events, keep⟩ := addMark_if (s := s.setEntry i d) offered i m (entryOf_setEntry_self s i d)
  rw [handleOf_setEntry] at events
  exact ⟨rewritesEntry_trans (rewritesEntry_of_dir s rfl rfl) written, markEvents_congr events rfl rfl rfl rfl,
    keepsBut_trans (keepsBut_entryBlocks (keepsBut_setEntry i d)) keep⟩

/-- What a retirement (R45) leaves: SPENT and RETIRED under WATCH, else a slot at the tail of the free list. -/
theorem retireSide_spec (i : SlotNo) (e : Entry) :
    let t := retireSide i e s
    (t.dir.free = if e.watch then s.dir.free else s.dir.free ++ [i])
      ∧ t.slot i = { s.slot i with
          entry := if e.watch then some ({ e with lock := none, life := .spent }.marked .retired) else none }
      ∧ keepsSlotsBut [i] s t
      ∧ markEvents (e.watch && !e.marks.has .retired) e.wake (s.handleOf i) s t := by
  by_cases watched : e.watch = true
  · rw [retireSide_of_watched s i e watched]
    obtain ⟨⟨slot, others, free⟩, events, -⟩ :=
      setEntry_addMark_if (s := s) true i .retired { e with lock := none, life := .spent }
    simp only [if_pos watched]
    exact ⟨free, slot, others, events⟩
  · rw [retireSide_of_unwatched s i e (Bool.eq_false_iff.mpr watched)]
    obtain ⟨slot, others, free⟩ := freesSlot_of_dir (i := i) (t := freeSlot i s) s (u := s) rfl rfl
    simp only [Bool.eq_false_iff.mpr watched, Bool.false_and]
    exact ⟨free, slot, others, markEvents_of_same _ _ rfl rfl⟩

end Sys2Proof.Proofs
end

section
/-! PROOFS. A served command or request from the grant to its end: what is refused, what is done. -/

namespace Sys2Proof.Proofs

open Sys2Proof.Machine Sys2Proof.Laws

variable {s t : State}

/-! ## Command grants -/

/-- FORCE is bit 0 of OPTIONS (12.1). -/
theorem force_eq_option (c : CommandSlot) : c.force = c.option 0 := rfl

/-- A command without output fields that is refused. -/
theorem finishPlain_error {n : Fin 4} (h : s.commandHead = some n) (code : ResultCode) :
    completesWith n code [] [] s (finishCommand n (finishPlain (takeCommand s) (.error code))) :=
  answerOnly_completesWith s code [] h (by simp) (by simp) []

/-- A command that changes the directory alone. -/
theorem finishCommand_of_dir {n : Fin 4} (r : Completion) (h : s.commandHead = some n)
    (keep : keepsBut [.dir] (takeCommand s) r.state) (once : (r.outputs.map (fun p => p.1)).Nodup)
    (free : ∀ p ∈ r.outputs, p.1 ≠ Offset.result) : completesWith n r.code r.outputs [.dir] s (finishCommand n r) := by
  have grant : keepsBut [.dir, .arb, .port, .notify] s (takeCommand s) := keepsBut_mono takeCommand_keeps (by simp)
  exact finishCommand_completesWith s r h (keep.2 .port (by simp)) (keep.2 .arb (by simp)) (keep.2 .notify (by simp))
    (keepsBut_trans grant (keepsBut_mono keep (by simp))) once free

/-- A command that changes an entry and gives marks. -/
theorem finishCommand_of_entry {n : Fin 4} (r : Completion) (h : s.commandHead = some n)
    (keep : keepsBut entryBlocks (takeCommand s) r.state) (once : (r.outputs.map (fun p => p.1)).Nodup)
    (free : ∀ p ∈ r.outputs, p.1 ≠ Offset.result) :
    completesSlot n r.code r.outputs s (finishCommand n r)
      ∧ keepsBut [.dir, .arb, .port, .notify, .doze] s (finishCommand n r) := by
  have grant : keepsBut [.dir, .arb, .port, .notify, .doze] s (takeCommand s) :=
    keepsBut_mono takeCommand_keeps (by simp)
  have port := keep.2 .port (by simp [entryBlocks])
  have arb := keep.2 .arb (by simp [entryBlocks])
  exact ⟨finishCommand_completes s r h port arb once free,
    finishCommand_keeps s n r (keepsBut_trans grant (keepsBut_mono keep (by simp [entryBlocks]))) (by simp) (by simp)⟩

/-- A finished slot adds CMD to the events of a mark. -/
theorem finishCommand_markEvents {n : Fin 4} {r : Completion} {m : Mark} {e : Entry} {h : Handle}
    (k : markEvents (e.watch && !e.marks.has m) e.wake h s r.state) :
    marksAndWakes [.cmd] m e h s (finishCommand n r) :=
  ⟨finishCommand_setsFlags s n r k.1, k.2⟩

/-- A 16-bit field as the one output of a command names two offsets, and not RESULT where neither is. -/
theorem halfAt_outputs {o : Fin 48} (ho : o ≠ Offset.result ∧ o + 1 ≠ Offset.result ∧ o ≠ o + 1) (h : Half) :
    ((halfAt o h).map (fun p => p.1)).Nodup ∧ ∀ p ∈ halfAt o h, p.1 ≠ Offset.result := by
  obtain ⟨first, second, differ⟩ := ho
  simp [halfAt, first, second, differ]

/-! ## Trunk grants -/

/-- A request that changes an entry and gives marks. -/
theorem buildReply_of_entry {c : Fin 6} (r : Reply) (h : s.trunkHead = some c)
    (keep : keepsBut entryBlocks (takeRequest s) t) :
    buildsReply c r s (buildReply c r t) ∧ keepsBut [.dir, .trunk, .arb, .notify, .doze] s (buildReply c r t) := by
  have grant : keepsBut [.dir, .trunk, .arb, .notify, .doze] s (takeRequest s) :=
    keepsBut_mono takeRequest_keeps (by simp)
  exact ⟨buildReply_builds s r t h (keep.2 .trunk (by simp [entryBlocks])) (keep.2 .arb (by simp [entryBlocks])),
    buildReply_keeps s c r t (keepsBut_trans grant (keepsBut_mono keep (by simp [entryBlocks]))) (by simp)⟩

/-- A kind and a payload that is a handle alone spell the request (R128). -/
theorem parseHandle_halfBytes (make : Handle → Request) (h : Handle) :
    parseHandle make (halfBytes h) = some (make h) := by
  simp [parseHandle, halfBytes]

end Sys2Proof.Proofs
end

section
/-! PROOFS. RETIRE (R46). -/

namespace Sys2Proof.Proofs

open Sys2Proof.Machine Sys2Proof.Laws

variable {s : State}

theorem exec_retire {n : Fin 4} (h : servesCommand n 0x05 s) :
    exec .retire s = .next (finishCommand n (performRetire (s.commandSlot n) (takeCommand s))) :=
  congrArg Host.Outcome.next (commandGrant_isCode performRetire h)

/-- Settles O17: the cases of R46, in its order. -/
theorem retireFreesTheEntryAtOnce : Obligations.RetireFreesTheEntryAtOnce := by
  intro s n h c
  obtain ⟨-, head, -⟩ := id h
  refine ⟨_, exec_retire h, ?_⟩
  simp only [performRetire, retire, lookup_takeCommand]
  rcases hl : s.lookup ((s.commandSlot n).half Offset.handle) with _ | ⟨i, e⟩
  · exact finishPlain_error head .unknown
  · simp only [isSpent_iff, lockBars_loc, force_eq_option]
    by_cases spent : e.life = .spent
    · simpa only [if_pos spent] using finishPlain_error head .inactive
    by_cases barred : barsHost ((s.commandSlot n).option 0) e = true
    · simpa only [c, if_neg spent, if_pos barred] using finishPlain_error head .locked
    · simp only [c, if_neg spent, if_neg barred, finishPlain]
      exact ⟨finishCommand_of_dir _ head (keepsBut_freeSlot i) (by simp [answerOnly]) (by simp [answerOnly]),
        freesSlot_of_dir s rfl rfl⟩

end Sys2Proof.Proofs
end

section
/-! PROOFS. READ and READ_ATTR (R48, R49). -/

namespace Sys2Proof.Proofs

open Sys2Proof.Machine Sys2Proof.Laws

variable {s t : State}

theorem exec_read {n : Fin 4} (h : servesCommand n 0x06 s) :
    exec .read s = .next (finishCommand n (performRead (s.commandSlot n) (takeCommand s))) :=
  congrArg Host.Outcome.next (commandGrant_isCode performRead h)

theorem exec_readAttr {n : Fin 4} (h : servesCommand n 0x0C s) :
    exec .readAttr s = .next (finishCommand n (performReadAttr (s.commandSlot n) (takeCommand s))) :=
  congrArg Host.Outcome.next (commandGrant_isCode performReadAttr h)

/-! ## The offsets written -/

/-- The offsets that READ writes. -/
def readOffsets : List (Fin 48) :=
  [Offset.state, Offset.selector, Offset.owner, Offset.tagLength] ++ (List.finRange 16).map dataOffset
    ++ [Offset.cls, Offset.reach, Offset.visibility, Offset.entryFlags, Offset.value, Offset.value + 1, Offset.lease,
      Offset.lease + 1, Offset.grace, Offset.holder, Offset.hold, Offset.index, Offset.marks]

theorem dataOutputs_offsets (bytes : List Byte) :
    (dataOutputs bytes).map (fun p => p.1) = (List.finRange 16).map dataOffset := by
  simp [dataOutputs, Function.comp_def]

theorem readOutputs_offsets (e : Entry) : (readOutputs e).map (fun p => p.1) = readOffsets := by
  simp [readOutputs, readOffsets, halfAt, dataOutputs_offsets]

theorem readRefused_offsets : readRefused.map (fun p => p.1) = readOffsets := by
  simp [readRefused, readOffsets, halfAt, dataOutputs_offsets]

theorem readOffsets_nodup : readOffsets.Nodup := by decide

/-- READ writes neither RESULT nor HANDLE among its output fields. -/
theorem not_mem_readOffsets :
    Offset.result ∉ readOffsets ∧ Offset.handle ∉ readOffsets ∧ Offset.handle + 1 ∉ readOffsets := by decide

/-- A command that names none of its offsets twice, and not RESULT, answers and changes nothing. -/
theorem answerOnly_of_offsets {n : Fin 4} {code : ResultCode} {outputs : List (Fin 48 × Byte)} {offsets : List (Fin 48)}
    (h : s.commandHead = some n) (named : outputs.map (fun p => p.1) = offsets) (once : offsets.Nodup)
    (free : Offset.result ∉ offsets) :
    completesWith n code outputs [] s (finishCommand n (answerOnly (takeCommand s) code outputs)) := by
  refine answerOnly_completesWith s code outputs h (named ▸ once) (fun p hp hr => free ?_) []
  rw [← named, ← hr]
  exact List.mem_map_of_mem hp

/-- A 16-bit field that no output names keeps its value. -/
theorem half_of_completesSlot {n : Fin 4} {code : ResultCode} {outputs : List (Fin 48 × Byte)} {o : Fin 48}
    (h : completesSlot n code outputs s t) (ho : o ≠ Offset.result) (ho' : o + 1 ≠ Offset.result)
    (no : o ∉ outputs.map (fun p => p.1)) (no' : o + 1 ∉ outputs.map (fun p => p.1)) :
    (t.commandSlot n).half o = (s.commandSlot n).half o := by
  obtain ⟨-, -, -, kept, -⟩ := h
  simp only [List.mem_map, not_exists, not_and] at no no'
  simp only [CommandSlot.half, kept o ho no, kept (o + 1) ho' no']

/-! ## READ -/

theorem performRead_of_none {c : CommandSlot} (hl : s.lookup (c.half Offset.handle) = none) :
    performRead c s = answerOnly s .unknown readRefused := by simp [performRead, hl]

theorem performRead_of_some {c : CommandSlot} {i : SlotNo} {e : Entry}
    (hl : s.lookup (c.half Offset.handle) = some (i, e)) : performRead c s = answerOnly s .ok (readOutputs e) := by simp [performRead, hl]

/-- Whatever READ answers, it leaves HANDLE. -/
theorem read_keeps_handle {n : Fin 4} {code : ResultCode} {outputs : List (Fin 48 × Byte)}
    (h : completesWith n code outputs [] s t) (named : outputs.map (fun p => p.1) = readOffsets) :
    (t.commandSlot n).half Offset.handle = (s.commandSlot n).half Offset.handle := by
  obtain ⟨-, hi, lo⟩ := not_mem_readOffsets
  exact half_of_completesSlot h.1 (by decide) (by decide) (named ▸ hi) (named ▸ lo)

/-- READ of a valid handle gives the record, of another one zeros; HANDLE is kept (R48). -/
theorem read_returns_record (s : State) (n : Fin 4) (h : servesCommand n 0x06 s) :
    ∃ t, exec .read s = .next t
      ∧ (t.commandSlot n).half Offset.handle = (s.commandSlot n).half Offset.handle
      ∧ match s.lookup ((s.commandSlot n).half Offset.handle) with
        | none => completesWith n .unknown readRefused [] s t
        | some (_, e) => completesWith n .ok (readOutputs e) [] s t := by
  obtain ⟨-, head, -⟩ := id h
  refine ⟨_, exec_read h, ?_⟩
  rcases hl : s.lookup ((s.commandSlot n).half Offset.handle) with _ | ⟨i, e⟩
  · rw [performRead_of_none (s := takeCommand s) hl]
    have done := answerOnly_of_offsets (code := .unknown) head readRefused_offsets readOffsets_nodup not_mem_readOffsets.1
    exact ⟨read_keeps_handle done readRefused_offsets, done⟩
  · rw [performRead_of_some (s := takeCommand s) hl]
    have done := answerOnly_of_offsets (code := .ok) head (readOutputs_offsets e) readOffsets_nodup not_mem_readOffsets.1
    exact ⟨read_keeps_handle done (readOutputs_offsets e), done⟩

/-! ## READ_ATTR -/

/-- A READ_ATTR that answers this pair and changes nothing. -/
theorem answerAttr {n : Fin 4} (h : s.commandHead = some n) (code : ResultCode) (id : Byte) (v : Half) :
    completesWith n code (attrOutputs id v) [] s (finishCommand n (answerOnly (takeCommand s) code (attrOutputs id v))) :=
  answerOnly_of_offsets (offsets := [Offset.index, Offset.value, Offset.value + 1]) h (by simp [attrOutputs, halfAt])
    (by decide) (by decide)

/-- READ_ATTR judges the index, the handle and the number of pairs, in that order (R49). -/
theorem readAttr_returns_pair (s : State) (n : Fin 4) (h : servesCommand n 0x0C s) :
    let c := s.commandSlot n
    let k := (c.byte Offset.index).toNat
    ∃ t, exec .readAttr s = .next t
      ∧ if 5 < k then completesWith n .badParam (attrOutputs 0 0) [] s t
        else
          match s.lookup (c.half Offset.handle) with
          | none => completesWith n .unknown (attrOutputs 0 0) [] s t
          | some (_, e) =>
            (e.attrs.length ≤ k → completesWith n .noAttr (attrOutputs 0 0) [] s t)
            ∧ ∀ h : k < e.attrs.length,
              completesWith n .ok (attrOutputs (e.attrs[k]'h).id (e.attrs[k]'h).value) [] s t := by
  intro c k
  obtain ⟨-, head, -⟩ := id h
  refine ⟨_, exec_readAttr h, ?_⟩
  simp only [performReadAttr, lookup_takeCommand]
  by_cases far : 5 < k
  · rw [if_pos far, if_neg (Nat.not_le.mpr far)]
    exact answerAttr head .badParam 0 0
  rw [if_neg far, if_pos (Nat.not_lt.mp far)]
  rcases hl : s.lookup (c.half Offset.handle) with _ | ⟨i, e⟩
  · exact answerAttr head .unknown 0 0
  · refine ⟨fun beyond => ?_, fun within => ?_⟩
    · simp only [List.getElem?_eq_none (show e.attrs.length ≤ ((s.commandSlot n).byte Offset.index).toNat from beyond)]
      exact answerAttr head .noAttr 0 0
    · simp only [List.getElem?_eq_getElem (show ((s.commandSlot n).byte Offset.index).toNat < e.attrs.length from within)]
      exact answerAttr head .ok _ _

/-- Settles O26: READ by whether the handle is valid, READ_ATTR in the order of its tests. -/
theorem readsReturnTheRecordAndItsPairs : Obligations.ReadsReturnTheRecordAndItsPairs := by
  refine ⟨fun s n h => ?_, readAttr_returns_pair⟩
  obtain ⟨t, ht, kept, done⟩ := read_returns_record s n h
  refine ⟨t, ht, kept, ?_⟩
  rcases hl : s.lookup ((s.commandSlot n).half Offset.handle) with _ | ⟨i, e⟩
  · simp only [hl] at done
    exact done
  · simp only [hl] at done
    obtain ⟨origin, tag, cls, reach, visibility, watch, wake, lease, life, lock, attrs, marks⟩ := e
    -- The state decides what stands in the lease remaining and grace positions, the lock what stands in holder and
    -- lapse.
    rcases life with (_ | r) | g | _ <;> rcases lock with _ | k <;> exact done

end Sys2Proof.Proofs
end

section
/-! PROOFS. FETCH (R50), REFRESH (R44) and WITHDRAW (R47). -/

namespace Sys2Proof.Proofs

open Sys2Proof.Machine Sys2Proof.Laws

variable {s t : State} {c : Fin 6} {m : Byte} {h : Handle}

theorem exec_fetch (served : servesRequest c m 0x05 (halfBytes h) s) :
    exec .fetch s = .next (serveFetch h c (takeRequest s)) :=
  congrArg Host.Outcome.next
    (trunkGrant_of_serves s selectFetch _ served (by simp [parseRequest, parseHandle_halfBytes, selectFetch]))

theorem exec_refresh (served : servesRequest c m 0x02 (halfBytes h) s) :
    exec .refresh s = .next (serveRefresh h c (takeRequest s)) :=
  congrArg Host.Outcome.next
    (trunkGrant_of_serves s selectRefresh _ served (by simp [parseRequest, parseHandle_halfBytes, selectRefresh]))

theorem exec_withdraw (served : servesRequest c m 0x03 (halfBytes h) s) :
    exec .withdraw s = .next (serveWithdraw h c (takeRequest s)) :=
  congrArg Host.Outcome.next
    (trunkGrant_of_serves s selectWithdraw _ served (by simp [parseRequest, parseHandle_halfBytes, selectWithdraw]))

/-! ## FETCH -/

/-- R12: consent is needed for a GUARDED entry of another. -/
theorem needsConsent_iff (n : Byte) (e : Entry) :
    needsConsent n e = true ↔ e.visibility = .guarded ∧ e.origin ≠ .trunk n := by
  simp [needsConsent]

/-- The description of an entry takes 5 bytes, 3 for each pair and those of the tag. -/
theorem length_fetchBody (e : Entry) : (fetchBody e).length = 5 + 3 * e.attrs.length + e.tag.length := by
  have pairs : (e.attrs.flatMap (fun a => a.id :: halfBytes a.value)).length = 3 * e.attrs.length := by
    induction e.attrs with
    | nil => rfl
    | cons a rest ih =>
      simp only [List.flatMap_cons, List.length_append, ih, List.length_cons]
      simp only [halfBytes, List.length_cons, List.length_nil]
      omega
  simp only [fetchBody, List.length_append, pairs, List.length_cons, List.length_nil]
  omega

/-- Settles O41: the cases of R50, in its order. -/
theorem fetchTellsADescription : Obligations.FetchTellsADescription := by
  intro s c m h served refused
  obtain ⟨-, head, -⟩ := id served
  refine ⟨_, exec_fetch served, ?_⟩
  simp only [serveFetch, node_of_serves s served, fetch, lookup_takeRequest]
  rcases hl : s.lookup h with _ | ⟨i, e⟩
  · exact buildReply_repliesWith s (refused .unknown) head []
  simp only [closedTo_node_iff, needsConsent_iff]
  by_cases closed : e.visibility = .closed
  · simp only [if_pos closed]
    exact buildReply_repliesWith s (refused .unknown) head []
  by_cases guarded : e.visibility = .guarded ∧ e.origin ≠ .trunk m
  · simp only [if_neg closed, if_pos guarded]
    exact buildReply_repliesWith s (refused .denied) head []
  by_cases live : e.life.isLive = true
  · simp only [if_neg closed, if_neg guarded, live, Bool.true_eq_false, if_false]
    refine ⟨buildReply_repliesWith s _ head [], fun pairs bytes => ?_⟩
    have := length_fetchBody e
    simp only [Reply.payload, List.length_cons]
    exact Nat.succ_le_of_lt (show (fetchBody e).length < 40 by omega)
  · simp only [Bool.not_eq_true] at live
    simp only [if_neg closed, if_neg guarded, live, Bool.false_eq_true, if_false, if_true]
    exact buildReply_repliesWith s (refused .inactive) head []

/-! ## REFRESH -/

/-- Settles O38: the cases of R44, in its order; the lock is asked in none of them. -/
theorem refreshRestartsTheLease : Obligations.RefreshRestartsTheLease := by
  intro s c m h served reply
  obtain ⟨-, head, -⟩ := id served
  refine ⟨_, exec_refresh served, ?_⟩
  simp only [serveRefresh, node_of_serves s served, refresh, lookup_takeRequest]
  rcases hl : s.lookup h with _ | ⟨i, e⟩
  · exact buildReply_repliesWith s (reply .unknown 0) head []
  simp only [isSpent_iff, closedTo_node_iff, not_ownedBy_node_iff]
  by_cases spent : e.life = .spent
  · simp only [if_pos spent, if_pos (Or.inl spent)]
    exact buildReply_repliesWith s (reply .unknown 0) head []
  by_cases closed : e.visibility = .closed
  · simp only [if_neg spent, if_pos closed, if_pos (Or.inr closed)]
    exact buildReply_repliesWith s (reply .unknown 0) head []
  have shown : ¬(e.life = .spent ∨ e.visibility = .closed) := not_or.mpr ⟨spent, closed⟩
  by_cases other : e.origin ≠ .trunk m
  · simp only [if_neg spent, if_neg closed, if_neg shown, if_pos other]
    exact buildReply_repliesWith s (reply .notOwner 0) head []
  · simp only [if_neg spent, if_neg closed, if_neg shown, if_neg other]
    obtain ⟨written, events, keep⟩ := setEntry_addMark_if (s := takeRequest s) e.life.isStale i .revived e.restarted
    obtain ⟨built, kept⟩ := buildReply_of_entry (reply .ok (e.leaseLength.getD 0)) head keep
    refine ⟨built, kept, rewritesEntry_congr written rfl rfl, ?_⟩
    cases stale : e.life.isStale with
    | true =>
      simp only [stale, Bool.true_and] at events
      exact markEvents_iff.mpr (markEvents_congr events rfl rfl rfl rfl)
    | false =>
      simp only [stale, Bool.false_and] at events
      exact markEvents_false_iff.mp (markEvents_congr events rfl rfl rfl rfl)

/-! ## WITHDRAW -/

/-- Settles O39: the cases of R47, in its order; then the retirement of R45. -/
theorem withdrawRetiresTheOwnEntry : Obligations.WithdrawRetiresTheOwnEntry := by
  intro s c m h served reply
  obtain ⟨-, head, -⟩ := id served
  refine ⟨_, exec_withdraw served, ?_⟩
  simp only [serveWithdraw, node_of_serves s served, withdraw, lookup_takeRequest]
  rcases hl : s.lookup h with _ | ⟨i, e⟩
  · exact buildReply_repliesWith s (reply .unknown) head []
  simp only [isSpent_iff, closedTo_node_iff, not_ownedBy_node_iff, lockBars_node]
  by_cases closed : e.visibility = .closed
  · simp only [if_pos closed]
    exact buildReply_repliesWith s (reply .unknown) head []
  by_cases other : e.origin ≠ .trunk m
  · simp only [if_neg closed, if_pos other]
    exact buildReply_repliesWith s (reply .notOwner) head []
  by_cases spent : e.life = .spent
  · simp only [if_neg closed, if_neg other, if_pos spent]
    exact buildReply_repliesWith s (reply .inactive) head []
  by_cases barred : barsNode m e = true
  · simp only [if_neg closed, if_neg other, if_neg spent, if_pos barred]
    exact buildReply_repliesWith s (reply .locked) head []
  · simp only [if_neg closed, if_neg other, if_neg spent, if_neg barred, servePlain]
    obtain ⟨built, kept⟩ := buildReply_of_entry (reply .ok) head (keepsBut_retireSide (s := takeRequest s) i e)
    refine ⟨built, kept, ?_⟩
    by_cases watched : e.watch = true
    · simp only [if_pos watched]
      rw [retireSide_of_watched _ i e watched]
      obtain ⟨written, events, -⟩ :=
        setEntry_addMark_if (s := takeRequest s) true i .retired { e with lock := none, life := .spent }
      exact ⟨rewritesEntry_congr written rfl rfl, markEvents_iff.mpr (markEvents_congr events rfl rfl rfl rfl)⟩
    · simp only [if_neg watched]
      rw [retireSide_of_unwatched _ i e (Bool.eq_false_iff.mpr watched)]
      exact ⟨freesSlot_of_dir s (u := takeRequest s) rfl rfl, setsFlags_of_same rfl, rfl⟩

end Sys2Proof.Proofs
end

section
/-! PROOFS. AMEND (R39, R40). -/

namespace Sys2Proof.Proofs

open Sys2Proof.Machine Sys2Proof.Laws

variable {s : State}

theorem exec_amend {n : Fin 4} (h : servesCommand n 0x02 s) :
    exec .amend s = .next (finishCommand n (performAmend (s.commandSlot n) (takeCommand s))) :=
  congrArg Host.Outcome.next (commandGrant_isCode performAmend h)

/-- R39: a reach address or a visibility out of range is judged first. -/
theorem amend_of_out_of_range {h : Handle} {cls reach visibility : Byte} {watch wake : Bool} {lease : Half} {force : Bool}
    (out : reachOf reach = none ∨ visibilityOf visibility = none) :
    amend h cls reach visibility watch wake lease force s = .error .badParam := by
  unfold amend
  split
  next hr hv => simp [hr, hv] at out
  next => rfl

/-- Settles O15: the cases of R39, in its order; then the rewriting of R40. -/
theorem amendRewritesTheEntry : Obligations.AmendRewritesTheEntry := by
  intro s n h c lease watch
  obtain ⟨-, head, -⟩ := id h
  refine ⟨_, exec_amend h, fun out => ?_, fun r v hr hv => ?_⟩
  · rw [performAmend, amend_of_out_of_range out]
    exact finishPlain_error head .badParam
  · simp only [c] at hr hv
    simp only [performAmend, amend, hr, hv, lookup_takeCommand]
    rcases hl : s.lookup ((s.commandSlot n).half Offset.handle) with _ | ⟨i, e⟩
    · exact finishPlain_error head .unknown
    simp only [c, lease, isSpent_iff, lockBars_loc, force_eq_option]
    by_cases spent : e.life = .spent
    · simp only [if_pos spent]
      exact finishPlain_error head .inactive
    by_cases unending : (s.commandSlot n).half Offset.lease = 0 ∧ e.origin ≠ .loc
    · simp only [if_neg spent, if_pos unending]
      exact finishPlain_error head .badParam
    by_cases barred : barsHost ((s.commandSlot n).option 0) e = true
    · simp only [if_neg spent, if_neg unending, if_pos barred]
      exact finishPlain_error head .locked
    · simp only [if_neg spent, if_neg unending, if_neg barred]
      have offered : (e.life.isStale = true ∧ e.watch = true ∧ (s.commandSlot n).watch = true)
          ↔ (e.life.isStale && e.watch && watch) = true := by
        simp only [Bool.and_eq_true, and_assoc]
        exact Iff.rfl
      simp only [offered]
      obtain ⟨written, events, keep⟩ := setEntry_addMark_if (s := takeCommand s) (e.life.isStale && e.watch && watch) i
        .revived (amended e ((s.commandSlot n).byte Offset.cls) r v watch (s.commandSlot n).wake lease)
      obtain ⟨done, kept⟩ := finishCommand_of_entry (finishPlain (takeCommand s) (.ok _)) head keep
        (by simp [finishPlain, answerOnly]) (by simp [finishPlain, answerOnly])
      refine ⟨done, kept, rewritesEntry_congr written rfl rfl, ?_⟩
      cases revived : e.life.isStale && e.watch && watch with
      | true =>
        simp only [revived, Bool.true_and] at events
        exact finishCommand_markEvents (markEvents_congr events rfl rfl rfl rfl)
      | false =>
        simp only [revived, Bool.false_and] at events
        obtain ⟨flags, doze⟩ := markEvents_false_iff.mp (markEvents_congr (s' := s) events rfl rfl rfl rfl)
        exact ⟨finishCommand_setsFlags s n _ flags, doze⟩

end Sys2Proof.Proofs
end

section
/-! PROOFS. CREATE (R32, R33). -/

namespace Sys2Proof.Proofs

open Sys2Proof.Machine Sys2Proof.Laws

variable {s : State}

theorem exec_create {n : Fin 4} (h : servesCommand n 0x01 s) :
    exec .create s = .next (finishCommand n (performCreate (s.commandSlot n) (takeCommand s))) :=
  congrArg Host.Outcome.next (commandGrant_isCode performCreate h)

/-- R33: the entry that CREATE makes. -/
def createdEntry (tag : List Byte) (cls : Byte) (reach : Option Byte) (visibility : Visibility) (watch wake : Bool)
    (lease : Half) : Entry :=
  let length := if lease = 0 then none else some lease.toNat
  { origin := .loc, tag := tag, cls := cls, reach := reach, visibility := visibility, watch := watch, wake := wake,
    leaseLength := length, life := .live length, lock := none, attrs := [], marks := {} }

section Cases

variable {tag : List Byte} {length : Nat} {cls reach visibility : Byte} {watch wake : Bool} {lease : Half}

/-- R32: the fields are judged first. -/
theorem create_of_out_of_range (out : ¬(1 ≤ length ∧ length ≤ 16 ∧ reach.toNat ≤ 111 ∧ visibility.toNat ≤ 2)) :
    create tag length cls reach visibility watch wake lease s = .error .badParam := by
  unfold create
  split
  next ok =>
    split
    next hr hv =>
      have reachIn := mt (reachOf_eq_none_iff reach).mpr (by simp [hr])
      have visibilityIn := mt (visibilityOf_eq_none_iff visibility).mpr (by simp [hv])
      omega
    next => rfl
  next => rfl

/-- R32: fields in range give a reach address and a visibility. -/
theorem fields_in_range (hr : reach.toNat ≤ 111) (hv : visibility.toNat ≤ 2) :
    ∃ r v, reachOf reach = some r ∧ visibilityOf visibility = some v := by
  obtain ⟨r, hr⟩ := Option.ne_none_iff_exists'.mp (mt (reachOf_eq_none_iff reach).mp (Nat.not_lt.mpr hr))
  obtain ⟨v, hv⟩ := Option.ne_none_iff_exists'.mp (mt (visibilityOf_eq_none_iff visibility).mp (Nat.not_lt.mpr hv))
  exact ⟨r, v, hr, hv⟩

variable {r : Option Byte} {v : Visibility} (hlen : 1 ≤ length ∧ length ≤ 16) (hr : reachOf reach = some r)
  (hv : visibilityOf visibility = some v)

include hlen hr hv

/-- R32: tag equality is judged next. -/
theorem create_of_taken (taken : tagTaken tag s) :
    create tag length cls reach visibility watch wake lease s = .error .duplicate := by
  have found : (s.findTag tag).isSome = true := by
    rw [Option.isSome_iff_ne_none]
    exact fun free => (findTag_eq_none_iff tag).mp free taken
  simp [create, hlen, hr, hv, found]

/-- R32: the free list is judged last. -/
theorem create_of_full (new : ¬tagTaken tag s) (full : s.dir.free = []) :
    create tag length cls reach visibility watch wake lease s = .error .full := by
  have unfound := (findTag_eq_none_iff tag).mpr new
  simp [create, hlen, hr, hv, unfound, allocate_of_nil s _ full]

/-- R33: the entry is allocated. -/
theorem create_of_free (new : ¬tagTaken tag s) {t : State} {i : SlotNo}
    (taken : allocate (createdEntry tag cls r v watch wake lease) s = some (t, i)) :
    create tag length cls reach visibility watch wake lease s = .ok (t, i) := by
  have unfound := (findTag_eq_none_iff tag).mpr new
  have judged : create tag length cls reach visibility watch wake lease s
      = match allocate (createdEntry tag cls r v watch wake lease) s with
        | some p => .ok p
        | none => .error .full := by
    simp only [create, hlen, hr, hv, unfound, and_self, if_true, Option.isSome_none, Bool.false_eq_true, if_false]
    rfl
  rw [judged, taken]

end Cases

/-- CREATE with the fields of a command slot. -/
def createOf (c : CommandSlot) (s : State) : Except ResultCode (State × SlotNo) :=
  create (c.dataBytes (c.byte Offset.tagLength).toNat) (c.byte Offset.tagLength).toNat (c.byte Offset.cls)
    (c.byte Offset.reach) (c.byte Offset.visibility) c.watch c.wake (c.half Offset.lease) s

theorem performCreate_of_error {c : CommandSlot} {code : ResultCode} (h : createOf c s = .error code) :
    performCreate c s = answerOnly s code (halfAt Offset.handle nullHandle) := by
  unfold createOf at h
  simp [performCreate, h]

theorem performCreate_of_ok {c : CommandSlot} {t : State} {i : SlotNo} (h : createOf c s = .ok (t, i)) :
    performCreate c s = answerOnly t .ok (halfAt Offset.handle (t.handleOf i)) := by
  unfold createOf at h
  simp [performCreate, h]

/-- HANDLE is the one output field of CREATE. -/
theorem handle_outputs (h : Handle) :
    ((halfAt Offset.handle h).map (fun p => p.1)).Nodup ∧ ∀ p ∈ halfAt Offset.handle h, p.1 ≠ Offset.result :=
  halfAt_outputs (by decide) h

/-- A CREATE that is refused with the null handle. -/
theorem create_refused {n : Fin 4} (h : s.commandHead = some n) (code : ResultCode) :
    completesWith n code (halfAt Offset.handle nullHandle) [] s
      (finishCommand n (answerOnly (takeCommand s) code (halfAt Offset.handle nullHandle))) :=
  answerOnly_completesWith s code _ h (handle_outputs _).1 (handle_outputs _).2 []

/-- R4: the generation after one of 1 to 254. -/
theorem toNat_nextGeneration {g : Byte} (h : g.toNat ≤ 254) : (nextGeneration g).toNat = g.toNat + 1 := by
  have inside : g ≠ 0xFF := by
    rintro rfl
    exact absurd h (by decide)
  rw [nextGeneration, if_neg inside, BitVec.toNat_add]
  exact Nat.mod_eq_of_lt (by have : (1 : Byte).toNat = 1 := rfl; omega)

/-- The handle of a slot that was allocated. -/
theorem handleOf_allocated {e : Entry} {t : State} {i : SlotNo} (h : allocate e s = some (t, i)) :
    t.handleOf i = mkHandle (nextGeneration (s.slot i).generation) i := by
  obtain ⟨-, taken, -⟩ := allocate_spec s e t i h
  rw [State.handleOf, taken]

/-- Settles O14: the cases of R32, in its order, the entry of R33, and what R4 and R5 say of generations and handles. -/
theorem createAllocatesALocalEntry : Obligations.CreateAllocatesALocalEntry := by
  intro s n h c length tag fields
  obtain ⟨-, head, -⟩ := id h
  refine ⟨_, exec_create h, fun out => ?_, fun ok taken => ?_, fun ok new full => ?_, fun ok new i rest hfree => ?_,
    ⟨rfl, rfl, fun g _ hg => toNat_nextGeneration hg⟩, toNat_mkHandle, lookup_eq_some_iff⟩
  · rw [performCreate_of_error (c := c) (s := takeCommand s) (create_of_out_of_range out)]
    exact create_refused head .badParam
  all_goals
    obtain ⟨hmin, hmax, hreach, hvisibility⟩ := ok
    obtain ⟨r, v, hr, hv⟩ := fields_in_range hreach hvisibility
  · rw [performCreate_of_error (c := c) (s := takeCommand s) (create_of_taken ⟨hmin, hmax⟩ hr hv taken)]
    exact create_refused head .duplicate
  · rw [performCreate_of_error (c := c) (s := takeCommand s) (create_of_full ⟨hmin, hmax⟩ hr hv new full)]
    exact create_refused head .full
  · let e := createdEntry tag (c.byte Offset.cls) r v c.watch c.wake (c.half Offset.lease)
    have allocated := allocate_of_cons (takeCommand s) e i rest hfree
    have judged : createOf c (takeCommand s) = .ok (_, i) :=
      create_of_free (s := takeCommand s) ⟨hmin, hmax⟩ hr hv new allocated
    rw [performCreate_of_ok judged, handleOf_allocated allocated]
    obtain ⟨once, free⟩ := handle_outputs (mkHandle (nextGeneration (s.slot i).generation) i)
    exact ⟨finishCommand_of_dir (answerOnly _ .ok _) head (keepsBut_allocate allocated) once free, e,
      allocatesSlot_of_dir s (u := takeCommand s) rfl allocated rfl, rfl, rfl, rfl, reachByte_of_reachOf hr,
      toByte_of_visibilityOf hv, rfl, rfl, rfl, rfl, rfl, rfl, rfl⟩

end Sys2Proof.Proofs
end

section
/-! PROOFS. PURGE (R51). -/

namespace Sys2Proof.Proofs

open Sys2Proof.Machine Sys2Proof.Laws

variable {s : State}

theorem exec_purge {n : Fin 4} (h : servesCommand n 0x11 s) :
    exec .purge s = .next (finishCommand n (performPurge (s.commandSlot n) (takeCommand s))) :=
  congrArg Host.Outcome.next (commandGrant_isCode performPurge h)

/-- R51: slot `i` holds a LIVE or STALE entry of a selected origin. -/
def purges (selected : Origin → Bool) (s : State) (i : SlotNo) : Bool :=
  (s.entryOf i).any (fun e => e.countsForTag && selected e.origin)

/-- The work of a purge at one slot: the slot is freed and counted, or nothing happens. -/
theorem purgeSlot_eq (selected : Origin → Bool) (r : State × Nat) (i : SlotNo) :
    purgeSlot selected r i = if purges selected r.1 i then (freeSlot i r.1, r.2 + 1) else r := by
  unfold purgeSlot purges
  cases r.1.entryOf i <;> simp

/-- Freeing slot `i` leaves what a purge does at every other slot. -/
theorem purges_freeSlot_of_ne (selected : Origin → Bool) {i j : SlotNo} (h : i ≠ j) :
    purges selected (freeSlot i s) j = purges selected s j := by
  simp only [purges, entryOf_freeSlot, if_neg h]

/-- What a purge of some slots, each once, has done: which slots are freed, in which order they join the free list, how
many are counted, and that nothing beside the directory is touched. -/
structure Purged (selected : Origin → Bool) (slots : List SlotNo) (r p : State × Nat) : Prop where
  slot : ∀ i, p.1.slot i
    = if i ∈ slots ∧ purges selected r.1 i = true then { r.1.slot i with entry := none } else r.1.slot i
  free : p.1.dir.free = r.1.dir.free ++ slots.filter (purges selected r.1)
  cursor : p.1.dir.collectCursor = r.1.dir.collectCursor
  count : p.2 = r.2 + slots.countP (purges selected r.1)
  keeps : keepsBut [.dir] r.1 p.1

/-- A purge of one slot more, before the others. -/
theorem purged_cons (selected : Origin → Bool) {i : SlotNo} {rest : List SlotNo} (new : i ∉ rest) {r p : State × Nat}
    (h : Purged selected rest (purgeSlot selected r i) p) : Purged selected (i :: rest) r p := by
  obtain ⟨slot, free, cursor, count, keeps⟩ := h
  rw [purgeSlot_eq] at slot free cursor count keeps
  by_cases goes : purges selected r.1 i = true
  · simp only [if_pos goes] at slot free cursor count keeps
    have same : ∀ j ∈ rest, purges selected (freeSlot i r.1) j = purges selected r.1 j :=
      fun j hj => purges_freeSlot_of_ne selected (fun e => new (e ▸ hj))
    refine ⟨fun j => ?_, ?_, cursor, ?_, keepsBut_trans (keepsBut_freeSlot i) keeps⟩
    · rw [slot]
      by_cases hij : i = j
      · subst hij
        simp [new, goes]
      · simp [hij, Ne.symm hij, purges_freeSlot_of_ne, slot_freeSlot_of_ne]
    · rw [free, List.filter_congr same, List.filter_cons_of_pos goes]
      simp
    · rw [count, List.countP_congr (fun j hj => by rw [same j hj]), List.countP_cons_of_pos goes]
      omega
  · simp only [if_neg goes] at slot free cursor count keeps
    refine ⟨fun j => ?_, ?_, cursor, ?_, keeps⟩
    · rw [slot]
      by_cases hij : j = i
      · subst hij
        simp [new, goes]
      · simp [hij]
    · rw [free, List.filter_cons_of_neg goes]
    · rw [count, List.countP_cons_of_neg goes]

theorem purged_foldl (selected : Origin → Bool) (slots : List SlotNo) (once : slots.Nodup) (r : State × Nat) :
    Purged selected slots r (slots.foldl (purgeSlot selected) r) := by
  induction slots generalizing r with
  | nil => exact ⟨fun i => by simp, by simp, rfl, rfl, keepsBut_refl _⟩
  | cons i rest ih =>
    obtain ⟨new, once⟩ := List.nodup_cons.mp once
    exact purged_cons selected new (ih once _)

/-- R51: the whole purge. -/
theorem purged_purgeAll (selected : Origin → Bool) (s : State) :
    Purged selected allSlots (s, 0) (purgeAll selected s) :=
  purged_foldl selected allSlots (List.nodup_finRange 256) (s, 0)

/-- R51: a selector other than 1, 2 and 3 selects nothing. -/
theorem selects_of_out_of_range {b : Byte} (h : b.toNat = 0 ∨ 3 < b.toNat) : selects b = none := by
  unfold selects
  have differs : ∀ k : Byte, 1 ≤ k.toNat → k.toNat ≤ 3 → b ≠ k := by
    rintro k hmin hmax rfl
    omega
  rw [if_neg (differs 0x01 (by decide) (by decide)), if_neg (differs 0x02 (by decide) (by decide)),
    if_neg (differs 0x03 (by decide) (by decide))]

/-- R51: 1 selects LOCAL, 2 TRUNK, 3 both. -/
theorem selects_of_in_range {b : Byte} (hmin : 1 ≤ b.toNat) (hmax : b.toNat ≤ 3) :
    ∃ selected, selects b = some selected ∧ ∀ o, selected o
      = ((decide (o = .loc) && decide (b.toNat = 1 ∨ b.toNat = 3))
          || (decide (o ≠ .loc) && decide (b.toNat = 2 ∨ b.toNat = 3))) := by
  obtain hb | hb | hb : b.toNat = 1 ∨ b.toNat = 2 ∨ b.toNat = 3 := by omega
  · obtain rfl : b = 0x01 := BitVec.eq_of_toNat_eq hb
    exact ⟨_, rfl, fun o => by cases o <;> simp⟩
  · obtain rfl : b = 0x02 := BitVec.eq_of_toNat_eq hb
    exact ⟨_, rfl, fun o => by cases o <;> simp⟩
  · obtain rfl : b = 0x03 := BitVec.eq_of_toNat_eq hb
    exact ⟨_, rfl, fun o => by cases o <;> simp⟩

/-- VALUE is the one output field of PURGE. -/
theorem value_outputs (v : Half) :
    ((halfAt Offset.value v).map (fun p => p.1)).Nodup ∧ ∀ p ∈ halfAt Offset.value v, p.1 ≠ Offset.result :=
  halfAt_outputs (by decide) v

/-- Settles O23: the purge is a fold over the slots, each of which it meets once. -/
theorem purgeFreesTheSelectedOrigin : Obligations.PurgeFreesTheSelectedOrigin := by
  intro s n h sel goes
  obtain ⟨-, head, -⟩ := id h
  refine ⟨_, exec_purge h, fun out => ?_, fun hmin hmax => ?_⟩
  · simp only [performPurge, selects_of_out_of_range out]
    exact answerOnly_completesWith s .badParam _ head (value_outputs 0).1 (value_outputs 0).2 []
  · obtain ⟨selected, hsel, named⟩ := selects_of_in_range hmin hmax
    simp only [performPurge, hsel]
    obtain ⟨slot, free, cursor, count, keeps⟩ := purged_purgeAll selected (takeCommand s)
    have same : purges selected (takeCommand s) = goes := by
      funext i
      simp only [purges, goes, takeCommand_entryOf, named, Entry.countsForTag, ← isSpent_iff, decide_not,
        Bool.decide_eq_true]
      rfl
    simp only [same] at slot free count
    rw [Nat.zero_add] at count
    generalize purgeAll selected (takeCommand s) = p at slot free cursor count keeps ⊢
    refine ⟨?_, fun i => ?_, free, cursor⟩
    · rw [← count]
      exact finishCommand_of_dir (answerOnly p.1 .ok (halfAt Offset.value (BitVec.ofNat 16 p.2))) head keeps
        (value_outputs _).1 (value_outputs _).2
    · have freed := slot i
      simp only [show i ∈ allSlots from List.mem_finRange i, true_and] at freed
      exact freed

end Sys2Proof.Proofs
end

section
/-! PROOFS. ANNOUNCE (R34 to R38): what its judgement answers in each case. -/

namespace Sys2Proof.Proofs

open Sys2Proof.Machine Sys2Proof.Laws

variable {s t : State} {c : Fin 6} {m n cls vis : Byte} {payload tag : List Byte} {lease : Half} {v : Visibility}
  {g : Nat}

/-! ## The grant -/

theorem exec_announce (served : servesRequest c m 0x01 payload s)
    (parsed : parseRequest 0x01 payload = some (.announce tag cls vis lease)) :
    exec .announce s = .next (serveAnnounce tag cls vis lease c (takeRequest s)) :=
  congrArg Host.Outcome.next (trunkGrant_of_serves s selectAnnounce _ served (by rw [parsed]; rfl))

/-- An ANNOUNCE that is refused replies the null handle and lease 0, and changes nothing else. -/
theorem serveAnnounce_of_error {code : ResultCode} (served : servesRequest c m 0x01 payload s)
    (judged : announce m tag cls vis lease (takeRequest s) = .error code) :
    repliesWith c (announceReply code nullHandle 0) [] s (serveAnnounce tag cls vis lease c (takeRequest s)) := by
  obtain ⟨-, head, -⟩ := id served
  simp only [serveAnnounce, node_of_serves s served, judged]
  exact buildReply_repliesWith s _ head []

/-- An ANNOUNCE that is granted replies the handle and the granted lease. -/
theorem serveAnnounce_of_ok {i : SlotNo} (served : servesRequest c m 0x01 payload s)
    (judged : announce m tag cls vis lease (takeRequest s) = .ok (t, i, g)) :
    serveAnnounce tag cls vis lease c (takeRequest s) = buildReply c (announceReply .ok (t.handleOf i) g) t := by
  simp only [serveAnnounce, node_of_serves s served, judged]

/-! ## Fields (R34) -/

/-- R34: a tag length, a visibility or a lease out of range is judged first. -/
theorem announce_of_out_of_range (out : ¬(1 ≤ tag.length ∧ tag.length ≤ 16 ∧ vis.toNat ≤ 1 ∧ lease.toNat ≠ 0)) :
    announce n tag cls vis lease s = .error .badParam := by
  unfold announce
  split
  next ok =>
    split
    next => rfl
    next => rfl
    next w hopen hv =>
      have inRange : vis.toNat ≤ 1 := (toNat_le_one_iff_ne_closed hv).mpr hopen
      have length : 1 ≤ tag.length ∧ tag.length ≤ 16 := by simpa [tagInRange] using ok.1
      have asked : lease.toNat ≠ 0 := fun hz => ok.2 (BitVec.eq_of_toNat_eq hz)
      exact absurd ⟨length.1, length.2, inRange, asked⟩ out
  next => rfl

/-- R35 to R38: where an ANNOUNCE in range is placed, with `g` the granted lease. -/
def placeAnnounced (n : Byte) (tag : List Byte) (cls : Byte) (v : Visibility) (g : Nat) (s : State) :
    Except ResultCode (State × SlotNo) :=
  match s.findTag tag with
  | none => announceNew n tag cls v g s
  | some (i, e) =>
    match e.origin with
    | .loc => .error .duplicate
    | .trunk m =>
      if m = n then .ok (reannounce i e n cls v g s, i)
      else if e.life.isStale then takeover i e n tag cls v g s
      else .error .duplicate

/-- R34: with its fields in range, an ANNOUNCE is placed by the tag lookup, under the granted lease. -/
theorem announce_of_in_range (hmin : 1 ≤ tag.length) (hmax : tag.length ≤ 16) (hvis : vis.toNat ≤ 1)
    (hv : visibilityOf vis = some v) (asked : lease.toNat ≠ 0) :
    announce n tag cls vis lease s
      = (placeAnnounced n tag cls v (grantedLease s.params lease.toNat) s).map
          (fun p => (p.1, p.2, grantedLease s.params lease.toNat)) := by
  have fields : tagInRange tag = true ∧ lease ≠ 0 :=
    ⟨by simp [tagInRange, hmin, hmax], by rintro rfl; exact asked rfl⟩
  have shown := (toNat_le_one_iff_ne_closed hv).mp hvis
  rw [announce, if_pos fields, hv]
  cases v with
  | closed => exact absurd rfl shown
  | open_ =>
    show (match placeAnnounced n tag cls .open_ _ s with | .ok (s, i) => _ | .error code => _) = _
    cases placeAnnounced n tag cls .open_ (grantedLease s.params lease.toNat) s <;> rfl
  | guarded =>
    show (match placeAnnounced n tag cls .guarded _ s with | .ok (s, i) => _ | .error code => _) = _
    cases placeAnnounced n tag cls .guarded (grantedLease s.params lease.toNat) s <;> rfl

/-! ## A new entry (R35) -/

/-- R35, R38: the entry that node `n` is given. -/
def announcedEntry (n : Byte) (tag : List Byte) (cls : Byte) (v : Visibility) (g : Nat) (p : Params) : Entry :=
  { origin := .trunk n, tag := tag, cls := cls, reach := some n, visibility := v, watch := p.trunkWatch,
    wake := p.trunkWake, leaseLength := some g, life := .live (some g), lock := none, attrs := [], marks := {} }

theorem announceNew_of_full (full : s.dir.free = []) : announceNew n tag cls v g s = .error .full := by
  simp [announceNew, allocate_of_nil s _ full]

theorem announceNew_of_allocate {k : SlotNo}
    (allocated : allocate (announcedEntry n tag cls v g s.params) s = some (t, k)) :
    announceNew n tag cls v g s = .ok (addMark k .created t, k) := by
  unfold announcedEntry at allocated
  simp [announceNew, allocated]

/-- A slot allocated and rewritten is allocated with what was written. -/
theorem allocatesSlot_rewrites {i : SlotNo} {d e : Entry} {u : State} (h : allocatesSlot i d s t)
    (k : rewritesEntry i e t u) : allocatesSlot i e s u := by
  obtain ⟨free, ⟨others, cursor⟩, slot⟩ := h
  obtain ⟨kslot, ⟨kothers, kcursor⟩, kfree⟩ := k
  exact ⟨by rw [kfree, free], ⟨fun j hj => (kothers j hj).trans (others j hj), kcursor.trans cursor⟩, by rw [kslot, slot]⟩

theorem allocatesSlot_congr {i : SlotNo} {e : Entry} {s' t' : State} (h : allocatesSlot i e s t)
    (hs : s'.dir = s.dir) (ht : t'.dir = t.dir) : allocatesSlot i e s' t' := by
  simpa only [allocatesSlot, keepsSlotsBut, State.slot, hs, ht] using h

/-- R35: the head of the free list becomes the node's entry, marked CREATED if WATCH is on. -/
theorem announceNew_of_free {k : SlotNo} {rest : List SlotNo} (hfree : s.dir.free = k :: rest) :
    let e := announcedEntry n tag cls v g s.params
    let h := mkHandle (nextGeneration (s.slot k).generation) k
    ∃ t, announceNew n tag cls v g s = .ok (t, k) ∧ t.handleOf k = h ∧ allocatesSlot k (e.marked .created) s t
      ∧ markEvents e.watch e.wake h s t ∧ keepsBut entryBlocks s t := by
  intro e h
  obtain ⟨a, allocated⟩ : ∃ a, allocate e s = some (a, k) := ⟨_, allocate_of_cons s e k rest hfree⟩
  have placed := announceNew_of_allocate allocated
  have taken := allocatesSlot_of_dir (t := a) s rfl allocated rfl
  have holds : a.entryOf k = some e := by rw [State.entryOf, taken.2.2]
  have named : a.handleOf k = h := handleOf_allocated allocated
  have keep := keepsBut_allocate allocated
  obtain ⟨written, events, marked⟩ := addMark_if (s := a) true k .created holds
  refine ⟨addMark k .created a, placed, (handleOf_of_rewrites written).trans named, allocatesSlot_rewrites taken written,
    ?_, keepsBut_trans (keepsBut_entryBlocks keep) marked⟩
  rw [named] at events
  simpa [e, announcedEntry, Marks.has] using
    markEvents_congr events (keep.2 .notify (by simp)).symm (keep.2 .doze (by simp)).symm rfl rfl

/-- Settles O35: the fields, the free list, then the new entry. -/
theorem announceCreatesANewEntry : Obligations.AnnounceCreatesANewEntry := by
  intro s c m payload tag cls vis lease served parsed r g reply fields
  obtain ⟨-, head, -⟩ := id served
  refine ⟨_, exec_announce served parsed, fun out => ?_, fun ok new full => ?_, fun ok new i rest hfree => ?_⟩
  · exact serveAnnounce_of_error served (announce_of_out_of_range out)
  all_goals
    obtain ⟨hmin, hmax, hvis, asked⟩ := ok
    obtain ⟨v, hv⟩ := Option.ne_none_iff_exists'.mp
      (mt (visibilityOf_eq_none_iff vis).mp (Nat.not_lt.mpr (Nat.le_trans hvis (by decide))))
    have judged := announce_of_in_range (s := takeRequest s) (n := m) (cls := cls) hmin hmax hvis hv asked
    have unfound : (takeRequest s).findTag tag = none := (findTag_eq_none_iff tag).mpr new
    rw [placeAnnounced, unfound] at judged
  · simp only [announceNew_of_full (show (takeRequest s).dir.free = [] from full)] at judged
    exact serveAnnounce_of_error served judged
  · obtain ⟨t, placed, named, allocated, events, keep⟩ := announceNew_of_free (s := takeRequest s) (n := m) (tag := tag)
      (cls := cls) (v := v) (g := grantedLease s.params lease.toNat) hfree
    simp only [takeRequest_params, placed] at judged
    rw [serveAnnounce_of_ok served judged, named]
    obtain ⟨built, kept⟩ := buildReply_of_entry (reply .ok (mkHandle (nextGeneration (s.slot i).generation) i) g) head keep
    refine ⟨built, kept, announcedEntry m tag cls v g s.params, allocatesSlot_congr allocated rfl rfl, ?_, rfl, rfl, rfl,
      rfl, toByte_of_visibilityOf hv, rfl, rfl, rfl, rfl, rfl, rfl, rfl⟩
    exact markEvents_iff.mpr (by
      simpa [announcedEntry, Marks.has] using markEvents_congr (s' := s) (t' := buildReply c _ t) events rfl rfl rfl rfl)

end Sys2Proof.Proofs
end

section
/-! PROOFS. ANNOUNCE of a held tag: DUPLICATE or re-announcement (R36, R37). -/

namespace Sys2Proof.Proofs

open Sys2Proof.Machine Sys2Proof.Laws

variable {s : State} {n cls : Byte} {tag : List Byte} {v : Visibility} {g : Nat} {i : SlotNo} {e : Entry}

/-! ## The cases of a tag that is held -/

/-- R37: a LOCAL entry, or a LIVE one of another node, keeps its tag. -/
theorem placeAnnounced_of_duplicate (found : s.findTag tag = some (i, e)) (other : e.origin ≠ .trunk n)
    (stays : e.origin = .loc ∨ e.life.isLive = true) : placeAnnounced n tag cls v g s = .error .duplicate := by
  simp only [placeAnnounced, found]
  cases origin : e.origin with
  | loc => rfl
  | trunk m =>
    have differs : m ≠ n := fun h => other (h ▸ origin)
    have live : e.life.isLive = true := stays.resolve_left (by simp [origin])
    have fresh : e.life.isStale = false := by
      cases life : e.life <;> simp_all [Life.isLive, Life.isStale]
    simp [differs, fresh]

/-- R36: the owner's own entry is re-announced. -/
theorem placeAnnounced_of_own (found : s.findTag tag = some (i, e)) (own : e.origin = .trunk n) :
    placeAnnounced n tag cls v g s = .ok (reannounce i e n cls v g s, i) := by
  simp [placeAnnounced, found, own]

/-- R38: a STALE entry of another node is taken outcome. -/
theorem placeAnnounced_of_stale {m : Byte} (found : s.findTag tag = some (i, e)) (origin : e.origin = .trunk m)
    (differs : m ≠ n) (stale : e.life.isStale = true) :
    placeAnnounced n tag cls v g s = takeover i e n tag cls v g s := by
  simp [placeAnnounced, found, origin, differs, stale]

/-! ## Re-announcement (R36) -/

/-- A mark not held joins the set, and a set is changed by nothing else. -/
theorem add_ne_iff (k : Marks) (m : Mark) : k.add m ≠ k ↔ k.has m = false := by
  obtain ⟨created, changed, stale, revived, retired, lockLapsed⟩ := k
  cases m <;> simp [Marks.add, Marks.has]

/-- Two different marks, one after the other, leave the set as it was only where it held both. -/
theorem add_add_ne_iff (k : Marks) :
    (k.add .revived).add .changed ≠ k ↔ k.has .revived = false ∨ (k.add .revived).has .changed = false := by
  obtain ⟨created, changed, stale, revived, retired, lockLapsed⟩ := k
  cases revived <;> simp [Marks.add, Marks.has]

/-- Of REVIVED and CHANGED, offered in that order, one is a new mark exactly when the set of marks differs. -/
theorem new_iff_marks_differ (d : Entry) (stale changes : Bool) :
    let d' := if stale then d.marked .revived else d
    (stale && (d.watch && !d.marks.has .revived) || changes && (d'.watch && !d'.marks.has .changed))
      = decide ((if changes then d'.marked .changed else d').marks ≠ d.marks) := by
  by_cases watched : d.watch = true
  · match stale, changes with
    | false, false => simp
    | true, false => simp [Entry.marked, watched, add_ne_iff]
    | false, true => simp [Entry.marked, watched, add_ne_iff]
    | true, true => simp [Entry.marked, watched, add_add_ne_iff]
  · cases stale <;> cases changes <;> simp [Entry.marked, watched]

/-- R36: the owner's entry as it is written, before marks. -/
def reannounced (e : Entry) (n cls : Byte) (v : Visibility) (g : Nat) : Entry :=
  { e with cls := cls, visibility := v, reach := some n, leaseLength := some g, life := .live (some g) }

/-- The marks of a re-announced entry: REVIVED if it was STALE, then CHANGED if class or visibility differ. -/
def reannounceMarked (e : Entry) (n cls : Byte) (v : Visibility) (g : Nat) : Entry :=
  let d := reannounced e n cls v g
  let d := if e.life.isStale then d.marked .revived else d
  if e.cls ≠ cls ∨ e.visibility ≠ v then d.marked .changed else d

/-- A mark leaves WAKE. -/
theorem wake_marked_if (offered : Bool) (m : Mark) (d : Entry) :
    (if offered then d.marked m else d).wake = d.wake := by
  unfold Entry.marked
  cases offered <;> cases d.watch <;> rfl

/-- R36: the entry is written with its marks, which act as one event. -/
theorem reannounce_spec :
    let d := reannounceMarked e n cls v g
    let t := reannounce i e n cls v g s
    rewritesEntry i d s t ∧ markEvents (decide (d.marks ≠ e.marks)) e.wake (s.handleOf i) s t
      ∧ keepsBut entryBlocks s t := by
  intro d t
  obtain ⟨written, events, keep⟩ :=
    setEntry_addMark_if (s := s) e.life.isStale i .revived (reannounced e n cls v g)
  obtain ⟨written', events', keep'⟩ := addMark_if (decide (e.cls ≠ cls ∨ e.visibility ≠ v)) i .changed
    (entryOf_of_rewrites written)
  rw [handleOf_of_rewrites written, wake_marked_if] at events'
  have both := markEvents_trans_same events events'
  rw [new_iff_marks_differ] at both
  simp only [decide_eq_true_eq] at written' keep' both
  exact ⟨rewritesEntry_trans written written', both, keepsBut_trans keep keep'⟩

/-- Settles O36: a tag held by an entry that is no one else's STALE entry. -/
theorem announceMeetsAHeldTag : Obligations.AnnounceMeetsAHeldTag := by
  intro s c m payload tag cls vis lease i e v served parsed hmin hmax hvis hv asked he counts htag unique r g reply
  obtain ⟨-, head, -⟩ := id served
  have found : (takeRequest s).findTag tag = some (i, e) := findTag_of_unique he counts htag unique
  have judged := announce_of_in_range (s := takeRequest s) (n := m) (cls := cls) hmin hmax hvis hv asked
  refine ⟨fun other stays => ⟨_, exec_announce served parsed, ?_⟩, fun own => ⟨_, exec_announce served parsed, ?_⟩⟩
  · rw [placeAnnounced_of_duplicate found other stays] at judged
    exact serveAnnounce_of_error served judged
  · rw [placeAnnounced_of_own found own] at judged
    obtain ⟨written, events, keep⟩ :=
      reannounce_spec (s := takeRequest s) (i := i) (e := e) (n := m) (cls := cls) (v := v) (g := g)
    rw [serveAnnounce_of_ok served judged]
    have named : (reannounce i e m cls v g (takeRequest s)).handleOf i = s.handleOf i := handleOf_of_rewrites written
    obtain ⟨built, kept⟩ := buildReply_of_entry (reply .ok (s.handleOf i) g) head keep
    rw [show grantedLease (takeRequest s).params lease.toNat = g from rfl, named]
    exact ⟨built, kept, rewritesEntry_congr written rfl rfl, markEvents_congr events rfl rfl rfl rfl⟩

end Sys2Proof.Proofs
end

section
/-! PROOFS. ANNOUNCE takes over a STALE entry (R38). -/

namespace Sys2Proof.Proofs

open Sys2Proof.Machine Sys2Proof.Laws

variable {s : State} {n cls : Byte} {tag : List Byte} {v : Visibility} {g : Nat} {i : SlotNo} {e : Entry}

/-- R38: a lock of any holder bars the takeover. -/
theorem takeover_of_locked (locked : e.lock ≠ none) : takeover i e n tag cls v g s = .error .duplicate := by
  rw [takeover, if_pos (Option.isSome_iff_ne_none.mpr locked)]

/-- R38: where the old entry stays SPENT, the new one needs a FREE slot. -/
theorem takeover_of_full (unlocked : ¬e.lock ≠ none) (full : e.watch = true ∧ s.dir.free = []) :
    takeover i e n tag cls v g s = .error .full := by
  rw [takeover, if_neg (mt Option.isSome_iff_ne_none.mp unlocked), if_pos full.symm]

/-- R38: the old entry is retired, then the new one allocated. -/
theorem takeover_of_unlocked (unlocked : ¬e.lock ≠ none) (room : ¬(e.watch = true ∧ s.dir.free = [])) :
    takeover i e n tag cls v g s = announceNew n tag cls v g (retireSide i e s) := by
  rw [takeover, if_neg (mt Option.isSome_iff_ne_none.mp unlocked), if_neg (fun h => room h.symm)]

/-- R38, granted: slot `i` is retired with the entry `e`, then slot `k` taken by the entry `fresh`, whose handle is `h`. -/
structure TakenOver (i k : SlotNo) (e fresh : Entry) (h : Handle) (s t : State) : Prop where
  others : keepsSlotsBut [i, k] s t
  old : k ≠ i → t.slot i = { s.slot i with
    entry := if e.watch then some ({ e with lock := none, life := .spent }.marked .retired) else none }
  new : t.slot k = { generation := nextGeneration (s.slot k).generation, entry := some (fresh.marked .created) }
  handle : t.handleOf k = h
  events : ∃ w, markEvents (e.watch && !e.marks.has .retired) e.wake (s.handleOf i) s w
    ∧ markEvents fresh.watch fresh.wake h w t
  keeps : keepsBut entryBlocks s t

/-- R38: with no lock and a FREE slot for it, the takeover is granted; the retired slot stands at the tail of the free list
when the head is taken. -/
theorem takeover_of_free {k : SlotNo} {rest : List SlotNo} (unlocked : ¬e.lock ≠ none)
    (room : ¬(e.watch = true ∧ s.dir.free = []))
    (hfree : (if e.watch then s.dir.free else s.dir.free ++ [i]) = k :: rest) :
    ∃ t, takeover i e n tag cls v g s = .ok (t, k) ∧ t.dir.free = rest
      ∧ TakenOver i k e (announcedEntry n tag cls v g s.params)
        (mkHandle (nextGeneration (s.slot k).generation) k) s t := by
  rw [takeover_of_unlocked unlocked room]
  obtain ⟨free, old, others, retired⟩ := retireSide_spec (s := s) i e
  have retiring := keepsBut_retireSide (s := s) i e
  have generation : ∀ j, ((retireSide i e s).slot j).generation = (s.slot j).generation := (retireSide_slots s i e).1
  have params : (retireSide i e s).params = s.params := retiring.2 .params (by simp [entryBlocks])
  generalize retireSide i e s = w at *
  obtain ⟨t, placed, named, allocated, created, keep⟩ := announceNew_of_free (s := w) (n := n) (tag := tag) (cls := cls)
    (v := v) (g := g) (free.trans hfree)
  rw [generation] at named created
  rw [params] at allocated created
  obtain ⟨taken, ⟨kothers, cursor⟩, new⟩ := allocated
  have frees : k :: t.dir.free = k :: rest := taken.symm.trans (free.trans hfree)
  refine ⟨t, placed, (List.cons.inj frees).2, ⟨fun j hj => ?_, cursor.trans others.2⟩, fun differ => ?_, ?_, named,
    ⟨w, retired, created⟩, keepsBut_trans retiring keep⟩
  · simp only [List.mem_cons, List.not_mem_nil, or_false, not_or] at hj
    exact (kothers j (by simpa using hj.2)).trans (others.1 j (by simpa using hj.1))
  · exact (kothers i (by simpa using Ne.symm differ)).trans old
  · rw [new, generation]

/-- Settles O37: the refusals of R38, then the retirement of slot `i` and the allocation of slot `k`, one after the
other. -/
theorem announceTakesOverAStaleEntry : Obligations.AnnounceTakesOverAStaleEntry := by
  intro s c m node payload tag cls vis lease i e grace v served parsed hmin hmax hvis hv asked he life htag origin differs
    _ unique r g reply
  obtain ⟨-, head, -⟩ := id served
  have counts : e.countsForTag = true := by simp [Entry.countsForTag, life, Life.isSpent]
  have found : (takeRequest s).findTag tag = some (i, e) := findTag_of_unique he counts htag unique
  have judged := announce_of_in_range (s := takeRequest s) (n := m) (cls := cls) hmin hmax hvis hv asked
  rw [placeAnnounced_of_stale found origin differs (by simp [life, Life.isStale])] at judged
  refine ⟨_, exec_announce served parsed, ?_⟩
  by_cases locked : e.lock ≠ none
  · rw [if_pos locked]
    rw [takeover_of_locked locked] at judged
    exact serveAnnounce_of_error served judged
  rw [if_neg locked]
  by_cases full : e.watch = true ∧ s.dir.free = []
  · rw [if_pos full]
    rw [takeover_of_full (s := takeRequest s) locked full] at judged
    exact serveAnnounce_of_error served judged
  rw [if_neg full]
  intro k rest hfree h
  obtain ⟨t, granted, free, outcome⟩ := takeover_of_free (s := takeRequest s) (n := m) (tag := tag) (cls := cls) (v := v)
    (g := g) locked full hfree
  obtain ⟨w, retired, created⟩ := outcome.events
  rw [show grantedLease (takeRequest s).params lease.toNat = g from rfl, granted] at judged
  rw [serveAnnounce_of_ok served judged, outcome.handle]
  obtain ⟨built, kept⟩ := buildReply_of_entry (reply .ok h g) head outcome.keeps
  refine ⟨built, kept, free, outcome.others, outcome.old, ?_, ?_, ?_⟩
  · rw [buildReply_slot, outcome.new]
    rfl
  · rw [buildReply_entryOf, State.entryOf, outcome.new]
    rfl
  · exact markEvents_trans (markEvents_congr retired rfl rfl rfl rfl) (markEvents_congr created rfl rfl rfl rfl)

end Sys2Proof.Proofs
end

section
/-! PROOFS. SWEEP at one slot (R60 to R65): the steps of the work, and what they leave of the slot and of its marks. -/

namespace Sys2Proof.Proofs

open Sys2Proof.Machine Sys2Proof.Laws

variable {s t u : State} {i : SlotNo} {e d : Entry} {q grace : Nat}

/-! ## What a mark leaves of an entry -/

@[simp] theorem life_marked (m : Mark) (e : Entry) : (e.marked m).life = e.life := by
  unfold Entry.marked
  split <;> rfl

@[simp] theorem watch_marked (m : Mark) (e : Entry) : (e.marked m).watch = e.watch := by
  unfold Entry.marked
  split <;> rfl

@[simp] theorem wake_marked (m : Mark) (e : Entry) : (e.marked m).wake = e.wake := by
  unfold Entry.marked
  split <;> rfl

@[simp] theorem lock_marked (m : Mark) (e : Entry) : (e.marked m).lock = e.lock := by
  unfold Entry.marked
  split <;> rfl

/-- A reason is a new mark of an entry under WATCH that does not hold it. -/
theorem marked_marks_ne_iff (m : Mark) (e : Entry) :
    (e.marked m).marks ≠ e.marks ↔ e.watch = true ∧ e.marks.has m = false := by
  unfold Entry.marked
  by_cases watched : e.watch = true <;> simp [watched, add_ne_iff]

/-! ## Sets of marks that grow (R18) -/

theorem has_add (a : Marks) (m k : Mark) : (a.add m).has k = (a.has k || decide (k = m)) := by
  cases m <;> cases k <;> simp [Marks.has, Marks.add]

/-- Every reason of the first set is in the second. -/
def marksGrow (a b : Marks) : Prop := ∀ m, a.has m = true → b.has m = true

theorem marksGrow_refl (a : Marks) : marksGrow a a := fun _ h => h

theorem marksGrow_antisymm {a b : Marks} (h : marksGrow a b) (k : marksGrow b a) : a = b := by
  have same : ∀ m, a.has m = b.has m := fun m => Bool.eq_iff_iff.mpr ⟨h m, k m⟩
  obtain ⟨created, changed, stale, revived, retired, lockLapsed⟩ := a
  obtain ⟨created', changed', stale', revived', retired', lockLapsed'⟩ := b
  rw [Marks.mk.injEq]
  exact ⟨same .created, same .changed, same .stale, same .revived, same .retired, same .lockLapsed⟩

/-- A mark offered to an entry with the marks of `e` takes none of them away. -/
theorem marksGrow_marked (m : Mark) (marks : d.marks = e.marks) : marksGrow e.marks (d.marked m).marks := by
  intro k h
  rw [← marks] at h
  unfold Entry.marked
  split
  · simp [has_add, h]
  · exact h

/-- Of two steps that take no mark away, one gained a mark exactly when the set has changed. -/
theorem marks_ne_iff_of_grow {a b c : Marks} (h : marksGrow a b) (k : marksGrow b c) :
    c ≠ a ↔ b ≠ a ∨ c ≠ b := by
  constructor
  · intro differ
    by_cases same : b = a
    · exact .inr (same ▸ differ)
    · exact .inl same
  · rintro (first | second) rfl
    · exact first (marksGrow_antisymm k h)
    · exact second (marksGrow_antisymm h k)

/-! ## The steps of the work, on an entry -/

/-- R61: the entry has a lock that the charge uses up. -/
def lockLapses (q : Nat) (e : Entry) : Bool := e.lock.any (fun k => decide (k.lapse ≤ q))

/-- R61: the lock removed or reduced. -/
def lockCharged (q : Nat) (e : Entry) : Entry :=
  { e with lock := if lockLapses q e then none else e.lock.map (fun k => { k with lapse := k.lapse - q }) }

/-- R61: what step 1 leaves of an entry. -/
def lockSwept (q : Nat) (e : Entry) : Entry :=
  if lockLapses q e then (lockCharged q e).marked .lockLapsed else lockCharged q e

/-- R62 to R64: what step 2 or step 3 leaves of an entry, none for a slot that goes FREE. -/
def lifeSwept (q grace : Nat) (d : Entry) : Option Entry :=
  match d.life with
  | .live none | .spent => some d
  | .live (some r) =>
    if r ≤ q then some ({ d with life := .stale grace }.marked .stale) else some { d with life := .live (some (r - q)) }
  | .stale g =>
    if d.lock.isSome ∨ q < g then some { d with life := .stale (g - q) }
    else if d.watch then some ({ d with life := .spent }.marked .retired)
    else none

@[simp] theorem life_lockSwept : (lockSwept q e).life = e.life := by
  unfold lockSwept
  split <;> simp [lockCharged]

@[simp] theorem watch_lockSwept : (lockSwept q e).watch = e.watch := by
  unfold lockSwept
  split <;> simp [lockCharged]

@[simp] theorem wake_lockSwept : (lockSwept q e).wake = e.wake := by
  unfold lockSwept
  split <;> simp [lockCharged]

theorem lock_lockSwept : (lockSwept q e).lock = (lockCharged q e).lock := by
  unfold lockSwept
  split <;> simp

/-- A SPENT entry is passed unchanged. -/
theorem swept_of_spent (h : e.life.isSpent = true) : e.swept q grace = some e := by
  simp [Entry.swept, h]

/-- The work on an entry is step 1, then step 2 or 3 on what it leaves. -/
theorem swept_of_not_spent (h : ¬e.life.isSpent = true) : e.swept q grace = lifeSwept q grace (lockSwept q e) := by
  unfold Entry.swept lifeSwept
  rw [if_neg h, life_lockSwept]
  obtain ⟨_, _, _, _, _, _, _, _, life, _, _, _⟩ := e
  cases life with
  | live lease => cases lease <;> rfl
  | stale g =>
    exact ite_congr (by rw [lock_lockSwept]; rfl) (fun _ => rfl)
      (fun _ => ite_congr (by rw [watch_lockSwept]) (fun _ => rfl) (fun _ => rfl))
  | spent => rfl

theorem marksGrow_lockSwept : marksGrow e.marks (lockSwept q e).marks := by
  unfold lockSwept
  split
  · exact marksGrow_marked .lockLapsed rfl
  · exact marksGrow_refl _

theorem marksGrow_lifeSwept (h : lifeSwept q grace d = some e) : marksGrow d.marks e.marks := by
  unfold lifeSwept at h
  split at h
  next => cases h; exact marksGrow_refl _
  next => cases h; exact marksGrow_refl _
  next =>
    split at h <;> cases h
    · exact marksGrow_marked .stale rfl
    · exact marksGrow_refl _
  next =>
    split at h
    · cases h; exact marksGrow_refl _
    · split at h <;> cases h
      exact marksGrow_marked .retired rfl

/-- Only an entry with WATCH off leaves its slot FREE. -/
theorem watch_of_lifeSwept_none (h : lifeSwept q grace d = none) : d.watch = false := by
  unfold lifeSwept at h
  split at h
  next => cases h
  next => cases h
  next => split at h <;> cases h
  next =>
    split at h
    · cases h
    · split at h
      · cases h
      · next unwatched => exact Bool.eq_false_iff.mpr unwatched

/-- An entry with WATCH off gains no mark at step 1. -/
theorem marks_lockSwept_of_unwatched (h : e.watch = false) : (lockSwept q e).marks = e.marks := by
  unfold lockSwept
  split <;> simp [lockCharged, Entry.marked, h]

/-! ## What an operation leaves of a slot -/

/-- A slot that held `before` and holds `after` has an entry that gained a mark. -/
def gainsMark (before after : Option Entry) : Bool :=
  match before, after with
  | some d, some e => decide (e.marks ≠ d.marks)
  | _, _ => false

/-- A slot that held `before` and holds `after` has gone FREE. -/
def goesFree (before after : Option Entry) : Bool := before.isSome && after.isNone

/-- Slot `i`, which held `before`, holds `after` under its old generation; where it has gone FREE it stands at the tail of
the free list, and where its entry gained a mark that has the effects of a new mark. -/
structure SlotLeft (i : SlotNo) (before after : Option Entry) (s t : State) : Prop where
  slot : t.slot i = { s.slot i with entry := after }
  others : keepsSlotsBut [i] s t
  free : t.dir.free = s.dir.free ++ if goesFree before after then [i] else []
  events : markEvents (gainsMark before after) (before.any (fun e => e.wake)) (s.handleOf i) s t
  keeps : keepsBut entryBlocks s t

/-- A slot that is passed unchanged. -/
theorem slotLeft_refl {x : Option Entry} (h : s.entryOf i = x) : SlotLeft i x x s s := by
  have free : goesFree x x = false := by cases x <;> rfl
  have gains : gainsMark x x = false := by cases x <;> simp [gainsMark]
  refine ⟨by rw [← h]; rfl, ⟨fun _ _ => rfl, rfl⟩, by simp [free], ?_, keepsBut_refl _⟩
  rw [gains]
  exact markEvents_of_same _ _ rfl rfl

/-- An entry is rewritten, its marks and WAKE as they were, and, if `offered`, a mark offered to it. -/
theorem slotLeft_setEntry_addMark (offered : Bool) (m : Mark) (marks : d.marks = e.marks) (wake : d.wake = e.wake) :
    SlotLeft i (some e) (some (if offered then d.marked m else d)) s
      (if offered then addMark i m (s.setEntry i d) else s.setEntry i d) := by
  obtain ⟨⟨slot, others, free⟩, events, keeps⟩ := setEntry_addMark_if (s := s) offered i m d
  have new : (offered && (d.watch && !d.marks.has m))
      = gainsMark (some e) (some (if offered then d.marked m else d)) := by
    cases offered <;> simp [gainsMark, ← marks, marked_marks_ne_iff]
  refine ⟨slot, others, by simp [free, goesFree], ?_, keeps⟩
  rw [new, wake] at events
  exact events

/-- A retirement (R45) of an entry without a lock. -/
theorem slotLeft_retireSide (unlocked : e.lock = none) :
    SlotLeft i (some e) (if e.watch then some ({ e with life := .spent }.marked .retired) else none) s
      (retireSide i e s) := by
  obtain ⟨free, slot, others, events⟩ := retireSide_spec (s := s) i e
  rw [show ({ e with lock := none, life := .spent } : Entry) = { e with life := .spent } by rw [← unlocked]] at slot
  refine ⟨slot, others, ?_, ?_, keepsBut_retireSide i e⟩
  · rw [free]
    cases e.watch <;> simp [goesFree]
  · have new : (e.watch && !e.marks.has .retired)
        = gainsMark (some e) (if e.watch then some ({ e with life := .spent }.marked .retired) else none) := by
      by_cases watched : e.watch = true
      · have := marked_marks_ne_iff .retired { e with life := .spent }
        simp_all [gainsMark]
      · simp [watched, gainsMark]
    rw [new] at events
    exact events

/-- Two operations on one slot, of which the first leaves an entry with the same WAKE flag. -/
theorem slotLeft_trans {x : Option Entry} (h : SlotLeft i (some e) (some d) s t) (k : SlotLeft i (some d) x t u)
    (wake : d.wake = e.wake)
    (gains : gainsMark (some e) x = (gainsMark (some e) (some d) || gainsMark (some d) x)) :
    SlotLeft i (some e) x s u := by
  obtain ⟨slot, ⟨others, cursor⟩, free, events, keeps⟩ := h
  obtain ⟨slot', ⟨others', cursor'⟩, free', events', keeps'⟩ := k
  have handle : t.handleOf i = s.handleOf i := by rw [State.handleOf, slot]; rfl
  refine ⟨by rw [slot', slot], ⟨fun j hj => (others' j hj).trans (others j hj), cursor'.trans cursor⟩, ?_, ?_,
    keepsBut_trans keeps keeps'⟩
  · rw [free', free]
    simp [goesFree]
  · rw [handle, Option.any_some, wake] at events'
    rw [gains]
    exact markEvents_trans_same events events'

/-! ## The steps of the work, on the slot -/

/-- R61: step 1. -/
theorem slotLeft_sweepLock (he : s.entryOf i = some e) :
    SlotLeft i (some e) (some (lockSwept q e)) s (sweepLock q i e s) := by
  unfold sweepLock
  cases hl : e.lock with
  | none =>
    have kept : lockCharged q e = e := by
      rw [lockCharged, hl, Option.map_none, ite_self, ← hl]
    rw [lockSwept, kept, if_neg (by simp [lockLapses, hl])]
    exact slotLeft_refl he
  | some k =>
    have left := slotLeft_setEntry_addMark (s := s) (i := i) (e := e) (d := lockCharged q e) (lockLapses q e) .lockLapsed
      rfl rfl
    by_cases lapsed : k.lapse ≤ q
    · simpa [lockSwept, lockCharged, lockLapses, hl, lapsed] using left
    · simpa [lockSwept, lockCharged, lockLapses, hl, lapsed] using left

/-- R62: step 2, for a LIVE entry. -/
theorem slotLeft_sweepLease (hd : s.entryOf i = some d) (live : d.life.isLive = true) :
    SlotLeft i (some d) (lifeSwept q grace d) s (sweepLease q grace i d s) := by
  unfold sweepLease lifeSwept
  cases life : d.life with
  | live lease =>
    cases lease with
    | none => exact slotLeft_refl hd
    | some r =>
      by_cases used : r ≤ q
      · simpa [used] using slotLeft_setEntry_addMark (s := s) (i := i) (e := d)
          (d := { d with life := .stale grace }) true .stale rfl rfl
      · simpa [used] using slotLeft_setEntry_addMark (s := s) (i := i) (e := d)
          (d := { d with life := .live (some (r - q)) }) false .stale rfl rfl
  | stale g => simp [life, Life.isLive] at live
  | spent => simp [life, Life.isLive] at live

/-- R63, R64: step 3, for a STALE entry. -/
theorem slotLeft_sweepGrace (hd : s.entryOf i = some d) (live : ¬d.life.isLive = true) :
    SlotLeft i (some d) (lifeSwept q grace d) s (sweepGrace q i d s) := by
  unfold sweepGrace lifeSwept
  cases life : d.life with
  | live lease => simp [life, Life.isLive] at live
  | stale g =>
    by_cases waits : d.lock.isSome = true ∨ q < g
    · simpa [waits] using slotLeft_setEntry_addMark (s := s) (i := i) (e := d)
        (d := { d with life := .stale (g - q) }) false .retired rfl rfl
    · have unlocked : d.lock = none := by
        rw [not_or, Option.not_isSome_iff_eq_none] at waits
        exact waits.1
      simpa [waits] using slotLeft_retireSide (s := s) unlocked
  | spent => exact slotLeft_refl hd

/-- The marks that a sweep gives are those of step 1 and those of step 2 or 3. -/
theorem gainsMark_lifeSwept_lockSwept :
    gainsMark (some e) (lifeSwept q grace (lockSwept q e))
      = (gainsMark (some e) (some (lockSwept q e))
        || gainsMark (some (lockSwept q e)) (lifeSwept q grace (lockSwept q e))) := by
  cases h : lifeSwept q grace (lockSwept q e) with
  | none =>
    have unwatched : e.watch = false := watch_lockSwept (q := q) ▸ watch_of_lifeSwept_none h
    simp [gainsMark, marks_lockSwept_of_unwatched unwatched]
  | some d =>
    have both := marks_ne_iff_of_grow (marksGrow_lockSwept (q := q) (e := e)) (marksGrow_lifeSwept h)
    simp only [gainsMark, both, Bool.decide_or]

/-- R60: the work at one slot. -/
theorem slotLeft_sweepSlot :
    SlotLeft i (s.entryOf i) ((s.entryOf i).bind (Entry.swept q grace)) s (sweepSlot q grace s i) := by
  unfold sweepSlot
  cases he : s.entryOf i with
  | none => exact slotLeft_refl he
  | some e =>
    by_cases spent : e.life.isSpent = true
    · simpa [spent, swept_of_spent] using slotLeft_refl he
    have first := slotLeft_sweepLock (q := q) he
    have held : (sweepLock q i e s).entryOf i = some (lockSwept q e) := by rw [State.entryOf, first.slot]
    have second : SlotLeft i (some (lockSwept q e)) (lifeSwept q grace (lockSwept q e)) (sweepLock q i e s)
        (if (lockSwept q e).life.isLive then sweepLease q grace i (lockSwept q e) (sweepLock q i e s)
          else sweepGrace q i (lockSwept q e) (sweepLock q i e s)) := by
      split
      next live => exact slotLeft_sweepLease held live
      next live => exact slotLeft_sweepGrace held live
    simpa only [Option.bind_some, if_neg spent, held, swept_of_not_spent spent] using
      slotLeft_trans first second wake_lockSwept gainsMark_lifeSwept_lockSwept

end Sys2Proof.Proofs
end

section
/-! PROOFS. SWEEP (R60): the fold of the work over the slots, each of which it meets once. -/

namespace Sys2Proof.Proofs

open Sys2Proof.Machine Sys2Proof.Laws

variable {s t u : State} {i : SlotNo} {q grace : Nat}

/-! ## Marks at several slots -/

/-- What the marks gained at some slots, in this order, do beside their entries: MARK is set if there is one, and the
first of an entry with WAKE on is the wake event captured. -/
def markEventsAt (slots : List SlotNo) (gains wakes : SlotNo → Bool) (handle : SlotNo → Handle) (s t : State) : Prop :=
  let first := if s.captures then slots.find? wakes else none
  setsFlags ((if slots.any gains then [.mark] else []) ++ (if first.isSome then [.wake] else [])) s t
    ∧ t.doze = (match first with
      | some i => { s.doze with record := some (.mark (handle i)) }
      | none => s.doze)

theorem markEventsAt_nil (gains wakes : SlotNo → Bool) (handle : SlotNo → Handle) :
    markEventsAt [] gains wakes handle s s := by
  simpa [markEventsAt] using setsFlags_of_same (s := s) rfl

/-- The marks of one slot more, before the others. -/
theorem markEventsAt_cons {slots : List SlotNo} {gains wakes : SlotNo → Bool} {handle : SlotNo → Handle} {wake : Bool}
    (h : markEvents (gains i) wake (handle i) s t) (k : markEventsAt slots gains wakes handle t u)
    (wakes_eq : wakes i = (gains i && wake)) : markEventsAt (i :: slots) gains wakes handle s u := by
  obtain ⟨flags, doze⟩ := h
  obtain ⟨flags', doze'⟩ := k
  rw [← wakes_eq] at flags doze
  by_cases woken : (wakes i && s.captures) = true
  · obtain ⟨wakesHere, captures⟩ := Bool.and_eq_true_iff.mp woken
    have gainsHere : gains i = true := (Bool.and_eq_true_iff.mp (wakes_eq ▸ wakesHere)).1
    rw [if_pos woken] at flags doze
    have taken : t.captures = false := by simp [State.captures, doze]
    refine ⟨setsFlags_congr (setsFlags_trans flags flags') (fun f => ?_), ?_⟩
    · simp only [taken, captures, gainsHere, wakesHere, List.find?_cons_of_pos, List.any_cons, if_true, Bool.true_or]
      cases slots.any gains <;> cases f <;> simp
    · rw [doze', doze]
      simp [taken, captures, wakesHere]
  · rw [if_neg woken] at flags doze
    have same : (if s.captures then (i :: slots).find? wakes else none)
        = if t.captures then slots.find? wakes else none := by
      rw [captures_congr doze]
      cases captures : s.captures with
      | false => rfl
      | true =>
        have passed : ¬wakes i = true := by simpa [captures] using woken
        simp [List.find?_cons_of_neg passed]
    refine ⟨?_, ?_⟩
    · rw [same]
      refine setsFlags_congr (setsFlags_trans flags flags') (fun f => ?_)
      simp only [List.any_cons]
      by_cases here : gains i = true <;> by_cases rest : slots.any gains = true <;> simp [here, rest]
    · rw [same, doze', doze]

/-! ## The fold -/

/-- What an operation has left of some slots, in this order, slot `i` of which held `before i` and holds `after i`. -/
structure SlotsLeft (slots : List SlotNo) (before after : SlotNo → Option Entry) (s t : State) : Prop where
  slot : ∀ i, t.slot i = if i ∈ slots then { s.slot i with entry := after i } else s.slot i
  free : t.dir.free = s.dir.free ++ slots.filter (fun i => goesFree (before i) (after i))
  cursor : t.dir.collectCursor = s.dir.collectCursor
  events : markEventsAt slots (fun i => gainsMark (before i) (after i))
    (fun i => gainsMark (before i) (after i) && (before i).any (fun e => e.wake)) s.handleOf s t
  keeps : keepsBut entryBlocks s t

/-- An operation on one slot keeps every handle. -/
theorem handleOf_of_slotLeft {x y : Option Entry} (h : SlotLeft i x y s t) : t.handleOf = s.handleOf := by
  funext j
  by_cases hj : j = i
  · subst hj
    rw [State.handleOf, h.slot]
    rfl
  · rw [State.handleOf, h.others.1 j (by simpa using hj)]
    rfl

/-- One slot more, before the others. -/
theorem slotsLeft_cons {slots : List SlotNo} {before after : SlotNo → Option Entry} (new : i ∉ slots)
    (h : SlotLeft i (before i) (after i) s t) (k : SlotsLeft slots before after t u) :
    SlotsLeft (i :: slots) before after s u := by
  have handles := handleOf_of_slotLeft h
  obtain ⟨slot, ⟨others, cursor⟩, free, events, keeps⟩ := h
  obtain ⟨slot', free', cursor', events', keeps'⟩ := k
  rw [handles] at events'
  refine ⟨fun j => ?_, ?_, cursor'.trans cursor, markEventsAt_cons events events' rfl, keepsBut_trans keeps keeps'⟩
  · rw [slot']
    by_cases hj : j = i
    · subst hj
      simp [new, slot]
    · simp [hj, others]
  · rw [free', free, List.filter_cons]
    cases goesFree (before i) (after i) <;> simp

/-- The sweep of some slots, each once. -/
theorem slotsLeft_foldl (slots : List SlotNo) (once : slots.Nodup) {before : SlotNo → Option Entry}
    (held : ∀ i ∈ slots, s.entryOf i = before i) :
    SlotsLeft slots before (fun i => (before i).bind (Entry.swept q grace)) s (slots.foldl (sweepSlot q grace) s) := by
  induction slots generalizing s with
  | nil => exact ⟨fun i => by simp, by simp, rfl, markEventsAt_nil _ _ _, keepsBut_refl _⟩
  | cons i rest ih =>
    obtain ⟨new, once⟩ := List.nodup_cons.mp once
    have here := slotLeft_sweepSlot (s := s) (i := i) (q := q) (grace := grace)
    rw [held i List.mem_cons_self] at here
    refine slotsLeft_cons new here (ih once (fun j hj => ?_))
    have apart : j ∉ [i] := fun h => new (List.mem_singleton.mp h ▸ hj)
    rw [State.entryOf, here.others.1 j apart]
    exact held j (List.mem_cons_of_mem _ hj)

/-- R60: the sweep of every slot. -/
theorem slotsLeft_sweepAll :
    SlotsLeft allSlots s.entryOf (fun i => (s.entryOf i).bind (Entry.swept q grace)) s (sweepAll q grace s) :=
  slotsLeft_foldl allSlots (List.nodup_finRange 256) (fun _ _ => rfl)

/-! ## The grant -/

/-- R27, R60: what the grant leaves for the sweep: it is recorded, and seconds owed is 0. -/
def takeSweep (s : State) : State := (recordGrant .sweep s).setTime { s.time with owed := 0 }

theorem takeSweep_keeps : keepsBut [.arb, .time] s (takeSweep s) :=
  ⟨rfl, fun b hb => by cases b <;> first | rfl | simp at hb⟩

theorem exec_sweep (settled : s.settled = true) (granted : s.nextGrant = some .sweep) :
    exec .sweep s = .next (sweepAll s.time.owed s.params.grace (takeSweep s)) := by
  have h : exec .sweep s = .next (sweepGrant (settle s)) := rfl
  rw [h, settle_of_settled s settled, sweepGrant, if_pos granted]
  rfl

/-- Settles O11: the sweep is a fold over the slots, and at each slot the steps of the work one after the other. -/
theorem sweepChargesEveryEntry : Obligations.SweepChargesEveryEntry := by
  intro s settled granted q
  refine ⟨_, exec_sweep settled granted, ?_⟩
  obtain ⟨slot, free, cursor, events, keeps⟩ :=
    slotsLeft_sweepAll (s := takeSweep s) (q := q) (grace := s.params.grace)
  generalize sweepAll q s.params.grace (takeSweep s) = t at slot free cursor events keeps ⊢
  have slots : ∀ i, t.slot i = { s.slot i with entry := (s.entryOf i).bind (Entry.swept q s.params.grace) } :=
    fun i => (slot i).trans (if_pos (List.mem_finRange i))
  have entries : ∀ i, t.entryOf i = (s.entryOf i).bind (Entry.swept q s.params.grace) :=
    fun i => by rw [State.entryOf, slots i]
  refine ⟨keepsBut_trans (keepsBut_mono takeSweep_keeps (by simp)) (keepsBut_mono keeps (by simp [entryBlocks])),
    keeps.2 .time (by simp [entryBlocks]), keeps.2 .arb (by simp [entryBlocks]), slots, ?_, cursor, ?_⟩
  · rw [free]
    refine congrArg (s.dir.free ++ ·) (List.filter_congr (fun i _ => ?_))
    rw [show (takeSweep s).entryOf i = s.entryOf i from rfl]
    cases s.entryOf i <;> simp [goesFree]
  · intro gains wakes first
    have gained : gains = fun i => gainsMark (s.entryOf i) ((s.entryOf i).bind (Entry.swept q s.params.grace)) :=
      funext fun i => by rw [← entries]; rfl
    change markEventsAt allSlots gains (fun i => gains i && (s.entryOf i).any (fun e => e.wake)) s.handleOf s t
    rw [gained]
    exact events

end Sys2Proof.Proofs
end

section
/-! PROOFS. Locks: LOCK and UNLOCK (R73, R77), CLAIM (R74) and YIELD (R78). -/

namespace Sys2Proof.Proofs

open Sys2Proof.Machine Sys2Proof.Laws

variable {s t : State} {n : Fin 4} {c : Fin 6} {m hold : Byte} {h : Handle} {i : SlotNo} {e : Entry} {who : Party}
  {k : Lock}

/-! ## The grants -/

theorem exec_lock (served : servesCommand n 0x07 s) :
    exec .lock s = .next (finishCommand n (performLock (s.commandSlot n) (takeCommand s))) :=
  congrArg Host.Outcome.next (commandGrant_isCode performLock served)

theorem exec_unlock (served : servesCommand n 0x08 s) :
    exec .unlock s = .next (finishCommand n (performUnlock (s.commandSlot n) (takeCommand s))) :=
  congrArg Host.Outcome.next (commandGrant_isCode performUnlock served)

theorem exec_claim (served : servesRequest c m 0x08 (halfBytes h ++ [hold]) s) :
    exec .claim s = .next (serveClaim h hold c (takeRequest s)) :=
  congrArg Host.Outcome.next
    (trunkGrant_of_serves s selectClaim _ served (by simp [parseRequest, parseClaim, halfBytes, selectClaim]))

theorem exec_yield (served : servesRequest c m 0x09 (halfBytes h) s) :
    exec .yield s = .next (serveYield h c (takeRequest s)) :=
  congrArg Host.Outcome.next
    (trunkGrant_of_serves s selectYield _ served (by simp [parseRequest, parseHandle_halfBytes, selectYield]))

/-! ## Setting or renewing a lock (R75) -/

theorem grantedHold_eq_min (p : Params) (hold : Nat) : grantedHold p hold = min hold p.lockMax := Nat.min_def.symm

/-- The entry with a lock of the requester, whose lapse is the granted hold. -/
def lockedFor (who : Party) (hold : Byte) (p : Params) (e : Entry) : Entry :=
  { e with lock := some { holder := who, lapse := min hold.toNat p.lockMax } }

/-- R75: with no lock, or the requester's own, the lock is set or renewed. -/
theorem claimLock_of_no_other (own : ∀ k, e.lock = some k → k.holder = who) :
    claimLock who hold i e s = .ok (s.setEntry i (lockedFor who hold s.params e), min hold.toNat s.params.lockMax) := by
  cases lock : e.lock with
  | none => simp [claimLock, lock, grantedHold_eq_min, lockedFor]
  | some k => simp [claimLock, lock, own k lock, grantedHold_eq_min, lockedFor]

/-- R75: the lock of another holder is answered. -/
theorem claimLock_of_other (lock : e.lock = some k) (other : k.holder ≠ who) : claimLock who hold i e s = .error k := by
  simp [claimLock, lock, other]

/-! ## Ends of a command and of a request that write at most one entry -/

theorem lockOutputs_offsets (holder lapse : Byte) :
    ((lockOutputs holder lapse).map (fun p => p.1)).Nodup ∧ ∀ p ∈ lockOutputs holder lapse, p.1 ≠ Offset.result :=
  ⟨(by decide : [Offset.holder, Offset.hold].Nodup), by
    simp [lockOutputs, show Offset.holder ≠ Offset.result by decide, show Offset.hold ≠ Offset.result by decide]⟩

/-- A LOCK or UNLOCK that reports a lock and changes nothing. -/
theorem lockCommand_answers (head : s.commandHead = some n) (code : ResultCode) (holder lapse : Byte) :
    completesWith n code (lockOutputs holder lapse) [] s
      (finishCommand n (answerOnly (takeCommand s) code (lockOutputs holder lapse))) :=
  have ⟨once, free⟩ := lockOutputs_offsets holder lapse
  answerOnly_completesWith s code _ head once free []

/-- A LOCK or UNLOCK that reports a lock and writes the entry. -/
theorem lockCommand_writes (head : s.commandHead = some n) (code : ResultCode) (holder lapse : Byte) :
    let t := finishCommand n (answerOnly ((takeCommand s).setEntry i e) code (lockOutputs holder lapse))
    completesWith n code (lockOutputs holder lapse) [.dir] s t ∧ rewritesEntry i e s t :=
  have ⟨once, free⟩ := lockOutputs_offsets holder lapse
  ⟨finishCommand_of_dir _ head (keepsBut_setEntry i e) once free, rewritesEntry_of_dir s rfl rfl⟩

/-- A request that changes the directory alone. -/
theorem buildReply_of_dir (r : Reply) (head : s.trunkHead = some c) (keep : keepsBut [.dir] (takeRequest s) t) :
    repliesWith c r [.dir] s (buildReply c r t) := by
  have grant : keepsBut [.dir, .trunk, .arb] s (takeRequest s) := keepsBut_mono takeRequest_keeps (by simp)
  exact ⟨buildReply_builds s r t head (keep.2 .trunk (by simp)) (keep.2 .arb (by simp)),
    buildReply_keeps s c r t (keepsBut_trans grant (keepsBut_mono keep (by simp))) (by simp)⟩

/-- A request that writes the entry. -/
theorem buildReply_writes (r : Reply) (head : s.trunkHead = some c) :
    let t := buildReply c r ((takeRequest s).setEntry i e)
    repliesWith c r [.dir] s t ∧ rewritesEntry i e s t :=
  ⟨buildReply_of_dir r head (keepsBut_setEntry i e), rewritesEntry_of_dir s rfl rfl⟩

/-! ## LOCK and UNLOCK -/

/-- R77: a lock of LOCAL, or any lock with FORCE, is released. -/
theorem unlockOutcome_of_lock (force : Bool) (lock : e.lock = some k) :
    unlockOutcome force e = if k.holder = .loc ∨ force = true then (.ok, true) else (.notHolder, false) := by
  simp only [unlockOutcome, lock]

/-- R77: with no lock there is none to release. -/
theorem unlockOutcome_of_no_lock (force : Bool) (lock : e.lock = none) :
    unlockOutcome force e = (.notHolder, false) := by
  simp only [unlockOutcome, lock]

/-- Settles O27: the cases of R73 and of R77, each in its order; LOCK does not read OPTIONS. -/
theorem lockAndUnlockOfTheHost : Obligations.LockAndUnlockOfTheHost := by
  refine ⟨?lock, ?unlock⟩
  case lock =>
    intro s n served c outputs granted
    obtain ⟨-, head, -⟩ := id served
    refine ⟨_, exec_lock served, ?_⟩
    simp only [c, performLock, judgeLock, lookup_takeCommand, isSpent_iff]
    by_cases zero : (s.commandSlot n).byte Offset.hold = 0x00
    · simp only [if_pos zero]
      exact lockCommand_answers head .badParam 0xFF 0x00
    simp only [if_neg zero]
    rcases s.lookup ((s.commandSlot n).half Offset.handle) with _ | ⟨i, e⟩
    · exact lockCommand_answers head .unknown 0xFF 0x00
    by_cases spent : e.life = .spent
    · simp only [if_pos spent]
      exact lockCommand_answers head .inactive 0xFF 0x00
    simp only [if_neg spent]
    rcases lock : e.lock with _ | ⟨_ | m, lapse⟩
    · simp only [claimLock_of_no_other (e := e) (who := .loc) (by simp [lock])]
      exact lockCommand_writes head .ok 0x00 (BitVec.ofNat 8 granted)
    · simp only [claimLock_of_no_other (e := e) (who := .loc) (by simp [lock])]
      exact lockCommand_writes head .ok 0x00 (BitVec.ofNat 8 granted)
    · simp only [claimLock_of_other (who := .loc) lock (by simp)]
      exact lockCommand_answers head .locked m (BitVec.ofNat 8 lapse)
  case unlock =>
    intro s n served c outputs
    obtain ⟨-, head, -⟩ := id served
    refine ⟨_, exec_unlock served, ?_⟩
    simp only [c, performUnlock, lookup_takeCommand, isSpent_iff, force_eq_option]
    rcases s.lookup ((s.commandSlot n).half Offset.handle) with _ | ⟨i, e⟩
    · exact lockCommand_answers head .unknown 0xFF 0x00
    by_cases spent : e.life = .spent
    · simp only [if_pos spent]
      exact lockCommand_answers head .inactive 0xFF 0x00
    simp only [if_neg spent]
    rcases lock : e.lock with _ | k
    · simp only [unlockOutcome_of_no_lock _ lock]
      exact lockCommand_answers head .notHolder 0xFF 0x00
    simp only [unlockOutcome_of_lock _ lock]
    by_cases released : k.holder = .loc ∨ (s.commandSlot n).option 0 = true
    · simp only [if_pos released]
      exact lockCommand_writes head .ok k.holder.toByte (BitVec.ofNat 8 k.lapse)
    · simp only [if_neg released]
      exact lockCommand_answers head .notHolder k.holder.toByte (BitVec.ofNat 8 k.lapse)

/-! ## CLAIM -/

/-- Settles O43: the cases of R74, in its order; then the lock of R75 and the reply of R76. -/
theorem claimSetsOrRenewsTheNodesLock : Obligations.ClaimSetsOrRenewsTheNodesLock := by
  intro s c m h hold served reply g
  obtain ⟨-, head, -⟩ := id served
  refine ⟨_, exec_claim served, ?_⟩
  simp only [serveClaim, judgeClaim, node_of_serves s served, lookup_takeRequest, closedTo_node_iff, needsConsent_iff]
  by_cases zero : hold = 0x00
  · simp only [if_pos zero]
    exact buildReply_repliesWith s (reply .badParam 0x00) head []
  simp only [if_neg zero]
  rcases s.lookup h with _ | ⟨i, e⟩
  · exact buildReply_repliesWith s (reply .unknown 0x00) head []
  by_cases closed : e.visibility = .closed
  · simp only [if_pos closed]
    exact buildReply_repliesWith s (reply .unknown 0x00) head []
  by_cases guarded : e.visibility = .guarded ∧ e.origin ≠ .trunk m
  · simp only [if_neg closed, if_pos guarded]
    exact buildReply_repliesWith s (reply .denied 0x00) head []
  by_cases live : e.life.isLive = true
  · simp only [if_neg closed, if_neg guarded, live, Bool.true_eq_false, if_false, if_true]
    refine ⟨fun k lock other => ?_, fun own => ?_⟩
    · simp only [claimLock_of_other lock other]
      exact buildReply_repliesWith s (reply .locked k.holder.toByte) head []
    · simp only [claimLock_of_no_other own]
      exact buildReply_writes (reply .ok (BitVec.ofNat 8 g)) head
  · simp only [Bool.not_eq_true] at live
    simp only [if_neg closed, if_neg guarded, live, Bool.false_eq_true, if_false, if_true]
    exact buildReply_repliesWith s (reply .inactive 0x00) head []

/-! ## YIELD -/

/-- Settles O44: the cases of R78, in its order; neither owner nor consent is asked. -/
theorem yieldReleasesTheNodesLock : Obligations.YieldReleasesTheNodesLock := by
  intro s c m h served reply
  obtain ⟨-, head, -⟩ := id served
  refine ⟨_, exec_yield served, ?_⟩
  simp only [serveYield, yield, node_of_serves s served, lookup_takeRequest, closedTo_node_iff, isSpent_iff]
  rcases s.lookup h with _ | ⟨i, e⟩
  · exact buildReply_repliesWith s (reply .unknown) head []
  by_cases closed : e.visibility = .closed
  · simp only [if_pos closed]
    exact buildReply_repliesWith s (reply .unknown) head []
  by_cases spent : e.life = .spent
  · simp only [if_neg closed, if_pos spent]
    exact buildReply_repliesWith s (reply .inactive) head []
  simp only [if_neg closed, if_neg spent]
  rcases e.lock with _ | k
  · exact buildReply_repliesWith s (reply .notHolder) head []
  simp only [Option.any_some, decide_eq_true_eq]
  by_cases own : k.holder = .node m
  · simp only [if_pos own]
    exact buildReply_writes (reply .ok) head
  · simp only [if_neg own]
    exact buildReply_repliesWith s (reply .notHolder) head []

end Sys2Proof.Proofs
end

section
/-! PROOFS. What a search matches (R89, R90). -/

namespace Sys2Proof.Proofs

open Sys2Proof.Machine Sys2Proof.Laws

variable {s : State} {r : Search} {e : Entry} {i : SlotNo}

theorem isLive_iff (l : Life) : l.isLive = true ↔ ∃ lease, l = .live lease := by cases l <;> simp [Life.isLive]

theorem isStale_iff (l : Life) : l.isStale = true ↔ ∃ grace, l = .stale grace := by cases l <;> simp [Life.isStale]

/-- R89, conditions 3 and 4: the length test, then the bytes at the positions that the mask selects (R90). -/
theorem tagMatches_iff (pattern : List Byte) (mask : Half) (exact : Bool) (tag : List Byte) :
    tagMatches pattern mask exact tag = true ↔
      (if exact then tag.length = pattern.length else pattern.length ≤ tag.length)
        ∧ ∀ i, i < pattern.length → mask.getLsbD i = true → tag[i]? = pattern[i]? := by
  have bytes : ∀ i, (!mask.getLsbD i || decide (tag[i]? = pattern[i]?)) = true ↔
      (mask.getLsbD i = true → tag[i]? = pattern[i]?) := fun i => by
    cases mask.getLsbD i <;> simp
  cases exact <;> simp only [tagMatches, Bool.and_eq_true, List.all_eq_true, List.mem_range, bytes] <;> simp

/-- R89, condition 5: without a class filter every class passes. -/
theorem classMatches_iff (filter : Option Byte) (cls : Byte) :
    classMatches filter cls = true ↔ ∀ k, filter = some k → cls = k := by
  cases filter <;> simp [classMatches]

/-- The five conditions of R89 on an entry. -/
theorem fits_iff : r.fits e = true ↔
    ((∃ l, e.life = .live l) ∨ (r.includeStale = true ∧ ∃ g, e.life = .stale g))
      ∧ (r.owner ≠ .loc → e.visibility ≠ .closed)
      ∧ (if r.exact then e.tag.length = r.pattern.length else r.pattern.length ≤ e.tag.length)
      ∧ (∀ i, i < r.pattern.length → r.mask.getLsbD i = true → e.tag[i]? = r.pattern[i]?)
      ∧ (∀ k, r.classFilter = some k → e.cls = k) := by
  have visible : (decide (r.owner = .loc) || decide (e.visibility ≠ .closed)) = true ↔
      (r.owner ≠ .loc → e.visibility ≠ .closed) := by
    simp only [Bool.or_eq_true, decide_eq_true_eq]
    exact Decidable.or_iff_not_imp_left
  simp only [Search.fits, Bool.and_eq_true, visible, tagMatches_iff, classMatches_iff, Bool.or_eq_true, isLive_iff,
    isStale_iff, and_assoc]

/-- A FREE slot never matches; any other one matches as its entry does. -/
theorem slotFits_eq_any (s : State) (r : Search) (i : SlotNo) : s.slotFits r i = (s.entryOf i).any r.fits := by
  unfold State.slotFits
  cases s.entryOf i <;> rfl

/-- Settles O52: a slot matches by its entry, an entry by the five conditions of R89. -/
theorem matchingFollowsItsFiveConditions : Obligations.MatchingFollowsItsFiveConditions := by
  intro s r i
  rw [slotFits_eq_any, Option.any_eq_true]
  exact exists_congr fun e => and_congr_right fun _ => fits_iff

end Sys2Proof.Proofs
end

section
/-! PROOFS. The host's search commands: SEARCH_START (R91), RESULTS (R103), SEARCH_CANCEL (R102) and SEARCH_RELEASE
(R104). -/

namespace Sys2Proof.Proofs

open Sys2Proof.Machine Sys2Proof.Laws

variable {s : State} {n : Fin 4} {k : Fin 4} {c : CommandSlot} {r : Search} {code : EndCode}

/-! ## The grants -/

theorem exec_searchStart (served : servesCommand n 0x09 s) :
    exec .searchStart s = .next (finishCommand n (performSearchStart (s.commandSlot n) (takeCommand s))) :=
  congrArg Host.Outcome.next (commandGrant_isCode performSearchStart served)

theorem exec_searchCancel (served : servesCommand n 0x0A s) :
    exec .searchCancel s = .next (finishCommand n (performSearchCancel (s.commandSlot n) (takeCommand s))) :=
  congrArg Host.Outcome.next (commandGrant_isCode performSearchCancel served)

theorem exec_results (served : servesCommand n 0x0B s) :
    exec .results s = .next (finishCommand n (performResults (s.commandSlot n) (takeCommand s))) :=
  congrArg Host.Outcome.next (commandGrant_isCode performResults served)

theorem exec_searchRelease (served : servesCommand n 0x0D s) :
    exec .searchRelease s = .next (finishCommand n (performSearchRelease (s.commandSlot n) (takeCommand s))) :=
  congrArg Host.Outcome.next (commandGrant_isCode performSearchRelease served)

/-! ## Ends of a search command -/

theorem keepsBut_setSearch (k : Fin 4) (x : SearchContext) : keepsBut [.search] s (s.setSearch k x) :=
  ⟨rfl, fun b hb => by cases b <;> first | rfl | simp at hb⟩

/-- A search command that replaces one search context. -/
theorem searchCommand_writes (head : s.commandHead = some n) (k : Fin 4) (x : SearchContext) (code : ResultCode)
    (outputs : List (Fin 48 × Byte)) (once : (outputs.map (fun p => p.1)).Nodup)
    (free : ∀ p ∈ outputs, p.1 ≠ Offset.result) :
    let t := finishCommand n (answerOnly ((takeCommand s).setSearch k x) code outputs)
    completesWith n code outputs [.search] s t ∧ t.searchContext k = x
      ∧ ∀ j, j ≠ k → t.searchContext j = s.searchContext j := by
  have grant : keepsBut [.search, .arb, .port, .notify] s (takeCommand s) := keepsBut_mono takeCommand_keeps (by simp)
  have write : keepsBut [.search, .arb, .port, .notify] (takeCommand s) ((takeCommand s).setSearch k x) :=
    keepsBut_mono (keepsBut_setSearch k x) (by simp)
  refine ⟨finishCommand_completesWith s (answerOnly _ code outputs) head rfl rfl rfl (keepsBut_trans grant write) once
    free, searchContext_setSearch_self _ k x, fun j hj => ?_⟩
  exact (searchContext_setSearch _ k j x).trans (if_neg (Ne.symm hj))

/-- A search command without output fields that changes nothing. -/
theorem searchCommand_answers (head : s.commandHead = some n) (code : ResultCode) :
    completesWith n code [] [] s (finishCommand n (answerOnly (takeCommand s) code [])) :=
  finishPlain_error head code

/-! ## The context that a slot names -/

/-- A number above 3 names no search context. -/
theorem searchNumber_eq_none (far : 3 < (c.byte Offset.state).toNat) : c.searchNumber = none :=
  dif_neg (by omega)

theorem searchNumber_eq_some (named : k.val = (c.byte Offset.state).toNat) : c.searchNumber = some k := by
  have near : (c.byte Offset.state).toNat < 4 := named ▸ k.isLt
  exact (dif_pos near).trans (congrArg some (Fin.ext named.symm))

/-! ## SEARCH_START -/

/-- R91: the context to claim is the lowest-numbered IDLE one. -/
theorem idleSearch_eq_some_iff :
    s.idleSearch = some k ↔ s.searchContext k = .idle ∧ ∀ j, j < k → s.searchContext j ≠ .idle := by
  rw [State.idleSearch, List.find?_eq_some_iff_getElem]
  simp only [decide_eq_true_eq, List.getElem_finRange, List.length_finRange, Bool.not_eq_true', decide_eq_false_iff_not]
  refine and_congr_right fun _ => ⟨?_, fun lower => ?_⟩
  · rintro ⟨i, hi, rfl, lower⟩ j hj
    exact lower j.val hj
  · exact ⟨k.val, k.isLt, rfl, fun j hj => lower ⟨j, by omega⟩ hj⟩

theorem idleSearch_eq_none_iff : s.idleSearch = none ↔ ∀ k, s.searchContext k ≠ .idle := by
  simp [State.idleSearch]

/-- R26: one RUNNING context makes the Search class pending. -/
theorem classPending_search_of_running (running : s.searchContext k = .running r) : s.classPending .search = true :=
  List.any_eq_true.mpr ⟨k, List.mem_finRange k, by rw [running]; rfl⟩

/-- The one output of SEARCH_START is STATE/CONTEXT, which is not RESULT. -/
theorem stateOutput_offsets (b : Byte) :
    (([(Offset.state, b)] : List (Fin 48 × Byte)).map (fun p => p.1)).Nodup
      ∧ ∀ p ∈ [(Offset.state, b)], p.1 ≠ Offset.result := by
  simp [show Offset.state ≠ Offset.result by decide]

/-- The ranges of the pattern length and of the limit (R91). -/
def searchFieldsOk (c : CommandSlot) : Prop :=
  1 ≤ (c.byte Offset.tagLength).toNat ∧ (c.byte Offset.tagLength).toNat ≤ 16
    ∧ 1 ≤ (c.byte Offset.value).toNat ∧ (c.byte Offset.value).toNat ≤ 32

theorem performSearchStart_of_bad_fields (bad : ¬searchFieldsOk c) :
    performSearchStart c s = answerOnly s .badParam [(Offset.state, 0xFF)] := if_neg bad

theorem performSearchStart_of_full (good : searchFieldsOk c) (full : s.idleSearch = none) :
    performSearchStart c s = answerOnly s .busy [(Offset.state, 0xFF)] :=
  (if_pos good).trans (by rw [full])

theorem performSearchStart_of_idle (good : searchFieldsOk c) (lowest : s.idleSearch = some k) :
    performSearchStart c s =
      answerOnly (s.setSearch k (.running (localSearch c))) .ok [(Offset.state, BitVec.ofNat 8 k.val)] :=
  (if_pos good).trans (by rw [lowest])

/-- Settles O18: the test of the fields, then whether some context is IDLE, then the claim. -/
theorem searchStartClaimsTheLowestIdleContext : Obligations.SearchStartClaimsTheLowestIdleContext := by
  intro s n served c length limit start fields
  obtain ⟨-, head, -⟩ := id served
  have refused (code : ResultCode) :
      completesWith n code [(Offset.state, 0xFF)] [] s
        (finishCommand n (answerOnly (takeCommand s) code [(Offset.state, 0xFF)])) :=
    have ⟨once, free⟩ := stateOutput_offsets 0xFF
    answerOnly_completesWith s code _ head once free []
  refine ⟨_, exec_searchStart served, fun bad => ?badParam, fun good full => ?busy, fun good k idle lower => ?claim⟩
  case badParam =>
    rw [performSearchStart_of_bad_fields bad]
    exact refused .badParam
  case busy =>
    have taken : (takeCommand s).idleSearch = none := idleSearch_eq_none_iff.mpr full
    rw [performSearchStart_of_full (c := s.commandSlot n) good taken]
    exact refused .busy
  case claim =>
    have lowest : (takeCommand s).idleSearch = some k := idleSearch_eq_some_iff.mpr ⟨idle, lower⟩
    rw [performSearchStart_of_idle (c := s.commandSlot n) good lowest]
    have ⟨once, free⟩ := stateOutput_offsets (BitVec.ofNat 8 k.val)
    obtain ⟨done, claimed, others⟩ := searchCommand_writes head k (.running (localSearch c)) .ok _ once free
    exact ⟨done, others, claimed, classPending_search_of_running claimed⟩

/-! ## RESULTS -/

/-- The offsets that RESULTS writes. -/
def resultsOffsets : List (Fin 48) :=
  [Offset.state, Offset.owner, Offset.value, Offset.value + 1, Offset.index] ++ (List.finRange 16).map dataOffset

theorem resultsOutputs_offsets (x : SearchContext) (first : Nat) :
    (resultsOutputs x first).map (fun p => p.1) = resultsOffsets := by
  simp [resultsOutputs, resultsOffsets, halfAt, dataOutputs_offsets]

theorem resultsRefused_offsets : resultsRefused.map (fun p => p.1) = resultsOffsets := by
  simp [resultsRefused, resultsOffsets, halfAt, dataOutputs_offsets]

/-- A RESULTS that gives these outputs and changes nothing. -/
theorem results_answers (head : s.commandHead = some n) (code : ResultCode) {outputs : List (Fin 48 × Byte)}
    (named : outputs.map (fun p => p.1) = resultsOffsets) :
    completesWith n code outputs [] s (finishCommand n (answerOnly (takeCommand s) code outputs)) :=
  answerOnly_of_offsets head named (by decide) (by decide)

theorem performResults_of_out_of_range (s : State)
    (out : 3 < (c.byte Offset.state).toNat ∨ 31 < (c.byte Offset.index).toNat) :
    performResults c s = answerOnly s .badParam resultsRefused := by
  unfold performResults
  cases number : c.searchNumber with
  | none => rfl
  | some k =>
    have beyond : 31 < (c.byte Offset.index).toNat :=
      out.resolve_left fun far => by simp [searchNumber_eq_none far] at number
    exact if_neg (Nat.not_le.mpr beyond)

theorem performResults_of_in_range (s : State) (named : k.val = (c.byte Offset.state).toNat)
    (near : (c.byte Offset.index).toNat ≤ 31) :
    performResults c s = answerOnly s .ok (resultsOutputs (s.searchContext k) (c.byte Offset.index).toNat) := by
  simp only [performResults, searchNumber_eq_some named, if_pos near]

/-- Settles O19: the context decides each field of the answer. -/
theorem resultsReadsASearchContext : Obligations.ResultsReadsASearchContext := by
  intro s n served c b first
  obtain ⟨-, head, -⟩ := id served
  refine ⟨_, exec_results served, fun out => ?_, fun k named near => ?_⟩
  · rw [performResults_of_out_of_range _ out]
    exact results_answers head .badParam resultsRefused_offsets
  · rw [performResults_of_in_range _ named near, takeCommand_searchContext]
    have done := results_answers head .ok (resultsOutputs_offsets (s.searchContext k) first)
    cases context : s.searchContext k with
    | idle => rwa [context] at done
    | running r => rwa [context] at done
    | done code r =>
      rw [context] at done
      cases code <;> exact done

/-! ## SEARCH_CANCEL and SEARCH_RELEASE -/

/-- Settles O25: both commands ask for the number, then look at the state and the owner of the context. -/
theorem searchCancelAndReleaseEndLocalSearches : Obligations.SearchCancelAndReleaseEndLocalSearches := by
  refine ⟨?cancel, ?release⟩
  case cancel =>
    intro s n served b
    obtain ⟨-, head, -⟩ := id served
    refine ⟨_, exec_searchCancel served, fun far => ?_, fun k named => ?_⟩
    · simp only [performSearchCancel, searchNumber_eq_none far]
      exact searchCommand_answers head .badParam
    simp only [performSearchCancel, searchNumber_eq_some named, takeCommand_searchContext]
    rcases s.searchContext k with _ | r | ⟨code, r⟩
    · exact searchCommand_answers head .none_
    · rcases owner : r.owner with _ | d
      · simp only [owner, if_true]
        exact searchCommand_writes head k (.done .cancelled r) .ok [] (by simp) (by simp)
      · simp only [owner, reduceCtorEq, if_false]
        exact searchCommand_answers head .badParam
    · rcases owner : r.owner with _ | d
      · simp only [owner, if_true]
        exact searchCommand_answers head .none_
      · simp only [owner, reduceCtorEq, if_false]
        exact searchCommand_answers head .badParam
  case release =>
    intro s n served b
    obtain ⟨-, head, -⟩ := id served
    refine ⟨_, exec_searchRelease served, fun far => ?_, fun k named => ?_⟩
    · simp only [performSearchRelease, searchNumber_eq_none far]
      exact searchCommand_answers head .badParam
    simp only [performSearchRelease, searchNumber_eq_some named, takeCommand_searchContext]
    rcases s.searchContext k with _ | r | ⟨code, r⟩
    · exact searchCommand_answers head .ok
    · rcases owner : r.owner with _ | d
      · simp only [owner, if_true]
        exact searchCommand_answers head .busy
      · simp only [owner, reduceCtorEq, if_false]
        exact searchCommand_answers head .badParam
    · rcases owner : r.owner with _ | d
      · simp only [owner, if_true]
        exact searchCommand_writes head k .idle .ok [] (by simp) (by simp)
      · simp only [owner, reduceCtorEq, if_false]
        exact searchCommand_answers head .badParam

end Sys2Proof.Proofs
end

section
/-! PROOFS. The walk of a search over the slots (R94 to R97): what a step has found where it stops, and where that is. -/

namespace Sys2Proof.Proofs

open Sys2Proof.Machine Sys2Proof.Laws

variable {s : State} {r : Search} {d m n : Nat}

/-! ## A search moved along the slots -/

/-- The handles of the matching slots from the cursor of a search to below `d`, in slot order. -/
def foundBelow (s : State) (r : Search) (d : Nat) : List Handle :=
  (allSlots.filter (fun i =>
    decide (r.cursor ≤ i.val) && decide (i.val < d) && (s.entryOf i).any (fun e => r.fits e))).map s.handleOf

/-- A search that has examined the slots from its cursor to below `d` (R94). -/
def movedTo (s : State) (r : Search) (d : Nat) : Search :=
  { r with cursor := d, results := r.results ++ foundBelow s r d }

@[simp] theorem movedTo_cursor : (movedTo s r d).cursor = d := rfl

/-- In an ascending list of slots, slot `i` comes first of those from `i` on. -/
theorem filter_from_slot {l : List SlotNo} (ascending : l.Pairwise (· < ·)) {i : SlotNo} (mem : i ∈ l) (hd : i.val < d)
    (p : SlotNo → Bool) :
    l.filter (fun j => decide (i.val ≤ j.val) && decide (j.val < d) && p j) =
      (if p i then [i] else []) ++ l.filter (fun j => decide (i.val + 1 ≤ j.val) && decide (j.val < d) && p j) := by
  induction l with
  | nil => cases mem
  | cons j rest ih =>
    obtain ⟨first, ascending⟩ := List.pairwise_cons.mp ascending
    rcases List.mem_cons.mp mem with rfl | mem
    · have after : rest.filter (fun j => decide (i.val ≤ j.val) && decide (j.val < d) && p j)
          = rest.filter (fun j => decide (i.val + 1 ≤ j.val) && decide (j.val < d) && p j) :=
        List.filter_congr fun j hj => by
          have later : i.val < j.val := first j hj
          have same : i.val ≤ j.val ↔ i.val + 1 ≤ j.val := by omega
          rw [decide_eq_decide.mpr same]
      rw [List.filter_cons, List.filter_cons, after]
      cases p i <;> simp [hd]
    · have before : j.val < i.val := first i mem
      rw [List.filter_cons_of_neg (by simp; omega), List.filter_cons_of_neg (by simp; omega)]
      exact ih ascending mem

/-- What is found from the cursor on is what the slot there gives, and what is found after it. -/
theorem foundBelow_examineSlot (h : r.cursor < 256) (hd : r.cursor < d) :
    foundBelow s r d = (if s.slotFits r ⟨r.cursor, h⟩ then [s.handleOf ⟨r.cursor, h⟩] else [])
      ++ foundBelow s (examineSlot s ⟨r.cursor, h⟩ r) d := by
  have split := filter_from_slot (l := allSlots) (List.pairwise_lt_finRange 256) (List.mem_finRange ⟨r.cursor, h⟩) hd
    (fun i => (s.entryOf i).any (fun e => r.fits e))
  rw [slotFits_eq_any, foundBelow, split, List.map_append]
  cases (s.entryOf ⟨r.cursor, h⟩).any r.fits <;> rfl

theorem foundBelow_of_le (h : d ≤ r.cursor) : foundBelow s r d = [] := by
  have empty : ∀ i : SlotNo, ¬(r.cursor ≤ i.val ∧ i.val < d) := fun i => by omega
  simp [foundBelow, empty]

/-- Before its cursor a search has nothing new. -/
theorem movedTo_results_of_le (h : d ≤ r.cursor) : (movedTo s r d).results = r.results := by
  simp [movedTo, foundBelow_of_le h]

theorem movedTo_cursor_self : movedTo s r r.cursor = r := by
  simp [movedTo, foundBelow_of_le]

/-- Examining the slot at the cursor and going on from there is going on from the cursor. -/
theorem movedTo_examineSlot (h : r.cursor < 256) (hd : r.cursor < d) :
    movedTo s (examineSlot s ⟨r.cursor, h⟩ r) d = movedTo s r d := by
  rw [movedTo, movedTo, foundBelow_examineSlot h hd]
  cases fits : s.slotFits r ⟨r.cursor, h⟩ <;> simp [examineSlot, fits]

/-- A slot examined is a move by one. -/
theorem examineSlot_eq_movedTo (h : r.cursor < 256) :
    examineSlot s ⟨r.cursor, h⟩ r = movedTo s r (r.cursor + 1) :=
  calc examineSlot s ⟨r.cursor, h⟩ r
      _ = movedTo s (examineSlot s ⟨r.cursor, h⟩ r) (r.cursor + 1) := movedTo_cursor_self.symm
      _ = movedTo s r (r.cursor + 1) := movedTo_examineSlot h (Nat.lt_succ_self _)

/-! ## Where the walk stops -/

/-- Why a search ends when it has been moved to `d`, if it ends there (R97): its list has reached the limit, or no slot
is left. -/
def endAt (s : State) (r : Search) (d : Nat) : Option EndCode :=
  if (movedTo s r d).results.length = r.limit then some .filled else if d = 256 then some .complete else none

theorem endAt_eq_none_iff : endAt s r d = none ↔ ¬((movedTo s r d).results.length = r.limit ∨ d = 256) := by
  unfold endAt
  split
  next full => simp [full]
  next notFull => split <;> simp_all

theorem endAt_eq_some (ends : (movedTo s r d).results.length = r.limit ∨ d = 256) :
    endAt s r d = some (if (movedTo s r d).results.length = r.limit then .filled else .complete) := by
  unfold endAt
  split
  next => rfl
  next notFull => rw [if_pos (ends.resolve_left notFull)]

/-- With slots left and room in the list a search does not end where it stands. -/
theorem endAt_cursor (left : r.cursor < 256) (room : r.results.length < r.limit) : endAt s r r.cursor = none := by
  rw [endAt_eq_none_iff, movedTo_cursor_self]
  omega

/-- What a walk of at most `n` slots leaves: the search moved to `d`, where it ends or the `n` slots are done; before
`d` there was room in the list. -/
structure StopsAt (s : State) (n : Nat) (r : Search) (d : Nat) : Prop where
  walked : walk s n r = (movedTo s r d, endAt s r d)
  forward : r.cursor ≤ d
  within : d ≤ 256
  bounded : d ≤ r.cursor + n
  room : ∀ m, m < d → (movedTo s r m).results.length < r.limit
  exhausted : endAt s r d = none → d = r.cursor + n

/-- With room in the list, the limit is reached exactly where the slot just examined matches and its handle fills the
list. -/
theorem filled_iff (left : r.cursor < 256) (room : r.results.length < r.limit) :
    (s.slotFits r ⟨r.cursor, left⟩ = true ∧ r.limit ≤ (movedTo s r (r.cursor + 1)).results.length) ↔
      (movedTo s r (r.cursor + 1)).results.length = r.limit := by
  rw [← examineSlot_eq_movedTo left]
  cases fits : s.slotFits r ⟨r.cursor, left⟩ <;> simp [examineSlot, fits] <;> omega

/-- A walk examines the slot at the cursor and, unless the search ends there, goes on. -/
theorem walk_succ (left : r.cursor < 256) (room : r.results.length < r.limit) :
    walk s (n + 1) r =
      let next := movedTo s r (r.cursor + 1)
      if endAt s r (r.cursor + 1) = none then walk s n next else (next, endAt s r (r.cursor + 1)) := by
  rw [walk, dif_pos left]
  simp only [examineSlot_eq_movedTo left, filled_iff left room, movedTo_cursor, endAt]
  by_cases full : (movedTo s r (r.cursor + 1)).results.length = r.limit
  · simp [full]
  · simp only [if_neg full]
    by_cases last : r.cursor + 1 = 256 <;> simp [last]

/-- A search that did not end where it was moved to has slots left and room in its list. -/
theorem left_and_room_of_endAt (goesOn : endAt s r d = none) (within : d ≤ 256)
    (room : (movedTo s r d).results.length ≤ r.limit) : d < 256 ∧ (movedTo s r d).results.length < r.limit := by
  have := endAt_eq_none_iff.mp goesOn
  omega

/-- One more slot adds at most one handle. -/
theorem movedTo_succ_length_le (left : r.cursor < 256) (room : r.results.length < r.limit) :
    (movedTo s r (r.cursor + 1)).results.length ≤ r.limit := by
  rw [← examineSlot_eq_movedTo left]
  cases fits : s.slotFits r ⟨r.cursor, left⟩ <;> simp [examineSlot, fits] <;> omega

/-- Moving a search by one slot, and then on, is moving it there at once. -/
theorem movedTo_movedTo_succ (left : r.cursor < 256) (hd : r.cursor < d) :
    movedTo s (movedTo s r (r.cursor + 1)) d = movedTo s r d := by
  rw [← examineSlot_eq_movedTo left, movedTo_examineSlot left hd]

theorem room_of_lt_succ (room : r.results.length < r.limit) (hm : m < r.cursor + 1) :
    (movedTo s r m).results.length < r.limit := by
  rwa [movedTo_results_of_le (Nat.le_of_lt_succ hm)]

/-- A walk of no slot stops where it stands. -/
theorem stopsAt_zero (left : r.cursor < 256) (room : r.results.length < r.limit) : StopsAt s 0 r r.cursor where
  walked := by rw [endAt_cursor left room, movedTo_cursor_self]; rfl
  forward := Nat.le_refl _
  within := Nat.le_of_lt left
  bounded := Nat.le_refl _
  room _ hm := room_of_lt_succ room (Nat.lt_succ_of_lt hm)
  exhausted _ := rfl

/-- A search that ends at its next slot stops there. -/
theorem stopsAt_of_ends (left : r.cursor < 256) (room : r.results.length < r.limit)
    (ends : endAt s r (r.cursor + 1) ≠ none) : StopsAt s (n + 1) r (r.cursor + 1) where
  walked := (walk_succ left room).trans (if_neg ends)
  forward := Nat.le_succ _
  within := left
  bounded := by omega
  room _ := room_of_lt_succ room
  exhausted goesOn := absurd goesOn ends

/-- A search that goes on after its next slot stops where the rest of the walk does. -/
theorem stopsAt_of_goesOn (left : r.cursor < 256) (room : r.results.length < r.limit)
    (goesOn : endAt s r (r.cursor + 1) = none) (rest : StopsAt s n (movedTo s r (r.cursor + 1)) d) :
    StopsAt s (n + 1) r d := by
  obtain ⟨walked, forward, within, bounded, before, exhausted⟩ := rest
  rw [movedTo_cursor] at forward bounded exhausted
  have same : ∀ m, r.cursor < m → movedTo s (movedTo s r (r.cursor + 1)) m = movedTo s r m :=
    fun m hm => movedTo_movedTo_succ left hm
  have sameEnd : endAt s (movedTo s r (r.cursor + 1)) d = endAt s r d := by
    rw [endAt, same d forward]
    rfl
  rw [same d forward, sameEnd] at walked
  rw [sameEnd] at exhausted
  refine ⟨((walk_succ left room).trans (if_pos goesOn)).trans walked, by omega, within, by omega, fun m hm => ?_,
    fun ended => by have := exhausted ended; omega⟩
  by_cases passed : m < r.cursor + 1
  · exact room_of_lt_succ room passed
  · rw [← same m (by omega)]
    exact before m hm

/-- R94, R97: a walk that begins with slots left and room in the list. -/
theorem walk_stops (s : State) (n : Nat) (r : Search) (left : r.cursor < 256) (room : r.results.length < r.limit) :
    ∃ d, StopsAt s n r d := by
  induction n generalizing r with
  | zero => exact ⟨r.cursor, stopsAt_zero left room⟩
  | succ n ih =>
    by_cases goesOn : endAt s r (r.cursor + 1) = none
    · obtain ⟨nextLeft, nextRoom⟩ := left_and_room_of_endAt goesOn left (movedTo_succ_length_le left room)
      obtain ⟨d, rest⟩ := ih (movedTo s r (r.cursor + 1)) nextLeft nextRoom
      exact ⟨d, stopsAt_of_goesOn left room goesOn rest⟩
    · exact ⟨r.cursor + 1, stopsAt_of_ends left room goesOn⟩

end Sys2Proof.Proofs
end

section
/-! PROOFS. SEARCH_STEP (R94 to R97): the grant, the walk, and what it leaves of the search served. -/

namespace Sys2Proof.Proofs

open Sys2Proof.Machine Sys2Proof.Laws

variable {s t u : State} {k : Fin 4} {c : Fin 6} {r : Search} {d : Nat}

theorem keepsBut_setFlag (f : Flag) : keepsBut [.notify] s (setFlag f s) :=
  ⟨rfl, fun b hb => by cases b <;> first | rfl | simp at hb⟩

/-! ## What a SEEK end leaves alone -/

/-- The trunk unit, the notification unit and doze control may change; SRCH does not. -/
def keepsButSeek (s t : State) : Prop := keepsBut [.trunk, .notify, .doze] s t ∧ t.flag .srch = s.flag .srch

theorem keepsButSeek_trans (first : keepsButSeek s t) (second : keepsButSeek t u) : keepsButSeek s u :=
  ⟨keepsBut_trans first.1 second.1, second.2.trans first.2⟩

theorem keepsButSeek_setContext (x : TrunkContext) : keepsButSeek s (s.setContext c x) :=
  ⟨⟨rfl, fun b hb => by cases b <;> first | rfl | simp at hb⟩, rfl⟩

theorem keepsButSeek_buildReply (reply : Reply) : keepsButSeek s (buildReply c reply s) :=
  ⟨⟨rfl, fun b hb => by cases b <;> first | rfl | simp at hb⟩, rfl⟩

theorem keepsButSeek_setFlag {f : Flag} (other : f ≠ .srch) : keepsButSeek s (setFlag f s) :=
  ⟨keepsBut_mono (keepsBut_setFlag f) (by simp), by simp [flag_setFlag, Ne.symm other]⟩

theorem keepsButSeek_setDoze (x : Doze) : keepsButSeek s (s.setDoze x) :=
  ⟨⟨rfl, fun b hb => by cases b <;> first | rfl | simp at hb⟩, rfl⟩

theorem keepsButSeek_refl : keepsButSeek s s := ⟨keepsBut_refl _, rfl⟩

theorem keepsButSeek_wakeEvent (w : WakeRecord) : keepsButSeek s (wakeEvent w s) := by
  by_cases captured : s.doze.wakeEnable = true ∧ s.doze.record = none
  · rw [wakeEvent_of s w captured]
    exact keepsButSeek_trans (keepsButSeek_setDoze _) (keepsButSeek_setFlag (by decide))
  · rw [wakeEvent_of_not s w captured]
    exact keepsButSeek_refl

theorem keepsButSeek_seekWake (items : List Item) (requester ticket : Byte) :
    keepsButSeek s (seekWake items requester ticket s) := by
  unfold seekWake
  split
  · exact keepsButSeek_wakeEvent _
  · exact keepsButSeek_refl

/-- R132, R133: whatever a SEEK end answers, it stores in its context, and replies, waits or wakes. -/
theorem keepsButSeek_seekEnd (c : Fin 6) (results : List Handle) (cursor : Nat) (s : State) :
    keepsButSeek s (seekEnd c results cursor s) := by
  unfold seekEnd
  extract_lets x items stored
  refine keepsButSeek_trans (t := stored) (keepsButSeek_setContext _) ?_
  split
  · split
    · exact keepsButSeek_trans (keepsButSeek_setContext _) (keepsButSeek_setFlag (by decide))
    · exact keepsButSeek_trans (keepsButSeek_buildReply _) (keepsButSeek_seekWake _ _ _)
  · exact keepsButSeek_buildReply _

/-! ## The end of a search -/

/-- R97: a search that goes on is stored back. -/
theorem endSearch_of_none : endSearch k r none s = s.setSearch k (.running r) := rfl

/-- R98: a LOCAL search that ends is DONE, and SRCH is set. -/
theorem endSearch_of_loc (code : EndCode) (owner : r.owner = .loc) :
    endSearch k r (some code) s = setFlag .srch (s.setSearch k (.done code r)) := by
  simp only [endSearch, owner]

/-- R99: a trunk-owned search that ends leaves its context IDLE and hands over to the SEEK end. -/
theorem endSearch_of_trunk (code : EndCode) (owner : r.owner = .trunk c) :
    endSearch k r (some code) s = seekEnd c r.results r.cursor (s.setSearch k .idle) := by
  simp only [endSearch, owner]

/-- However the step ends, the arbiter and the other search contexts are as they were. -/
theorem endSearch_others (k : Fin 4) (r : Search) (e : Option EndCode) (s : State) :
    (endSearch k r e s).arb = s.arb ∧ ∀ j, j ≠ k → (endSearch k r e s).searchContext j = s.searchContext j := by
  have stored (x : SearchContext) (j : Fin 4) (hj : j ≠ k) : (s.setSearch k x).searchContext j = s.searchContext j :=
    (searchContext_setSearch s k j x).trans (if_neg (Ne.symm hj))
  cases e with
  | none => exact ⟨rfl, stored _⟩
  | some code =>
    cases owner : r.owner with
    | loc =>
      rw [endSearch_of_loc code owner]
      exact ⟨rfl, stored _⟩
    | trunk c =>
      obtain ⟨⟨-, kept⟩, -⟩ := keepsButSeek_seekEnd c r.results r.cursor (s.setSearch k .idle)
      have search : (seekEnd c r.results r.cursor (s.setSearch k .idle)).search = (s.setSearch k .idle).search :=
        kept .search (by simp)
      rw [endSearch_of_trunk code owner]
      refine ⟨kept .arb (by simp), fun j hj => ?_⟩
      rw [State.searchContext, search]
      exact stored .idle j hj

/-! ## The grant -/

/-- R28: what the grant leaves for the step: it is recorded, with the context served. -/
def takeSearch (k : Fin 4) (s : State) : State := s.setArb { lastGranted := .search, lastServed := k }

theorem takeSearch_keeps : keepsBut [.arb] s (takeSearch k s) :=
  ⟨rfl, fun b hb => by cases b <;> first | rfl | simp at hb⟩

theorem exec_searchStep (settled : s.settled = true) (granted : s.nextGrant = some .search)
    (next : s.nextSearch = some k) (running : s.searchContext k = .running r) :
    exec .searchStep s =
      .next (endSearch k (walk s (stepSlots r.burst) r).1 (walk s (stepSlots r.burst) r).2 (takeSearch k s)) := by
  have h : exec .searchStep s = .next (searchGrant (settle s)) := rfl
  rw [h, settle_of_settled s settled, searchGrant, if_pos granted]
  simp only [next, running]
  rfl

/-! ## Where a step stops -/

/-- A step of at least one slot gets beyond the cursor. -/
theorem cursor_lt_of_stopsAt {n : Nat} (stops : StopsAt s n r d) (positive : 0 < n) (left : r.cursor < 256)
    (room : r.results.length < r.limit) : r.cursor < d := by
  refine Nat.lt_of_not_le fun back => ?_
  have stays : d = r.cursor := Nat.le_antisymm back stops.forward
  have far : d = r.cursor + n := stops.exhausted (stays ▸ endAt_cursor left room)
  omega

/-- R95, R96: a step that stops before the end of its search has examined 16 slots, and was STEPPED. -/
theorem stepped_of_goesOn (stops : StopsAt s (stepSlots r.burst) r d) (goesOn : endAt s r d = none) :
    r.burst = false ∧ d = r.cursor + 16 := by
  have far := stops.exhausted goesOn
  have within := stops.within
  obtain ⟨-, last⟩ := not_or.mp (endAt_eq_none_iff.mp goesOn)
  cases burst : r.burst with
  | true =>
    have : d = r.cursor + 256 := by rwa [burst] at far
    omega
  | false => exact ⟨rfl, by rwa [burst] at far⟩

/-! ## What a step leaves -/

theorem keepsBut_setSearch_takeSearch (x : SearchContext) :
    keepsBut [.arb, .search] s ((takeSearch k s).setSearch k x) :=
  keepsBut_trans (keepsBut_mono takeSearch_keeps (by simp)) (keepsBut_mono (keepsBut_setSearch k x) (by simp))

/-- R98: after the last step of a LOCAL search. -/
theorem endSearch_takeSearch_of_loc (code : EndCode) (owner : r.owner = .loc) :
    let t := endSearch k r (some code) (takeSearch k s)
    keepsBut [.arb, .search, .notify] s t ∧ setsFlags [.srch] s t ∧ t.searchContext k = .done code r := by
  rw [endSearch_of_loc code owner]
  have stored := keepsBut_setSearch_takeSearch (s := s) (k := k) (.done code r)
  exact ⟨keepsBut_trans (keepsBut_mono stored (by simp)) (keepsBut_mono (keepsBut_setFlag _) (by simp)),
    setsFlags_congr_states (setFlag_setsFlags _ .srch) rfl rfl, searchContext_setSearch_self _ k _⟩

/-- R99: after the last step of a trunk-owned search. -/
theorem endSearch_takeSearch_of_trunk (code : EndCode) (owner : r.owner = .trunk c) :
    let t := endSearch k r (some code) (takeSearch k s)
    t.searchContext k = .idle ∧ t.flag .srch = s.flag .srch ∧ keepsBut [.arb, .search, .notify, .doze, .trunk] s t := by
  rw [endSearch_of_trunk code owner]
  have stored := keepsBut_setSearch_takeSearch (s := s) (k := k) .idle
  obtain ⟨kept, flag⟩ := keepsButSeek_seekEnd c r.results r.cursor ((takeSearch k s).setSearch k .idle)
  have search := kept.2 .search (by simp)
  refine ⟨?_, flag, keepsBut_trans (keepsBut_mono stored (by simp)) (keepsBut_mono kept (by simp))⟩
  rw [State.searchContext, search]
  exact searchContext_setSearch_self _ k .idle

/-- Settles O53: the walk stops at `d`; there the search goes on, or ends for its owner. -/
theorem searchStepWalksTheSlots : Obligations.SearchStepWalksTheSlots := by
  intro s k r settled granted next running left room found after
  obtain ⟨d, stops⟩ := walk_stops s (stepSlots r.burst) r left room
  have slots : 0 < stepSlots r.burst := by cases r.burst <;> decide
  have ran := exec_searchStep settled granted next running
  rw [stops.walked] at ran
  obtain ⟨arb, others⟩ := endSearch_others k (movedTo s r d) (endAt s r d) (takeSearch k s)
  refine ⟨_, d, ran, arb, cursor_lt_of_stopsAt stops slots left room, stops.within, fun stepped => ?_, stops.room,
    others, ?_⟩
  · have bounded := stops.bounded
    rwa [stepped] at bounded
  change if (movedTo s r d).results.length = r.limit ∨ d = 256 then _ else _
  by_cases ends : (movedTo s r d).results.length = r.limit ∨ d = 256
  · rw [if_pos ends, endAt_eq_some ends]
    refine ⟨endSearch_takeSearch_of_loc (r := movedTo s r d) _, fun owned => ?_⟩
    cases owner : r.owner with
    | loc => exact absurd owner owned
    | trunk c => exact endSearch_takeSearch_of_trunk (r := movedTo s r d) _ owner
  · have goesOn := endAt_eq_none_iff.mpr ends
    obtain ⟨stepped, far⟩ := stepped_of_goesOn stops goesOn
    rw [if_neg ends, goesOn]
    exact ⟨stepped, far, keepsBut_setSearch_takeSearch _, searchContext_setSearch_self _ k _⟩

end Sys2Proof.Proofs
end

section
/-! PROOFS. READ_FORWARD (R135). -/

namespace Sys2Proof.Proofs

open Sys2Proof.Machine Sys2Proof.Laws

variable {s : State} {n : Fin 4} {k : Fin 6} {c : CommandSlot}

theorem exec_readForward (served : servesCommand n 0x0F s) :
    exec .readForward s = .next (finishCommand n (performReadForward (s.commandSlot n) (takeCommand s))) :=
  congrArg Host.Outcome.next (commandGrant_isCode performReadForward served)

/-! ## The trunk context that a slot names -/

/-- A number above 5 names no trunk context. -/
theorem trunkNumber_eq_none (far : 5 < (c.byte Offset.state).toNat) : c.trunkNumber = none :=
  dif_neg (by omega)

theorem trunkNumber_eq_some (named : k.val = (c.byte Offset.state).toNat) : c.trunkNumber = some k := by
  have near : (c.byte Offset.state).toNat < 6 := named ▸ k.isLt
  exact (dif_pos near).trans (congrArg some (Fin.ext named.symm))

/-! ## The offsets written -/

/-- The offsets that READ_FORWARD writes. -/
def forwardOffsets : List (Fin 48) :=
  [Offset.state, Offset.ticket, Offset.owner, Offset.tagLength] ++ (List.finRange 16).map dataOffset
    ++ [Offset.index, Offset.handle, Offset.handle + 1, Offset.mask, Offset.mask + 1, Offset.lease, Offset.lease + 1,
      Offset.value, Offset.value + 1]

theorem forwardOutputs_offsets (state ticket requester : Byte) (pattern : List Byte) (guarded : List Handle) :
    (forwardOutputs state ticket requester pattern guarded).map (fun p => p.1) = forwardOffsets := by
  simp [forwardOutputs, forwardOffsets, halfAt, dataOutputs_offsets]

/-- A READ_FORWARD that gives these fields and changes nothing. -/
theorem readForward_answers (head : s.commandHead = some n) (code : ResultCode) (state ticket requester : Byte)
    (pattern : List Byte) (guarded : List Handle) :
    let outputs := forwardOutputs state ticket requester pattern guarded
    completesWith n code outputs [] s (finishCommand n (answerOnly (takeCommand s) code outputs)) :=
  answerOnly_of_offsets head (forwardOutputs_offsets state ticket requester pattern guarded) (by decide) (by decide)

/-! ## The answer -/

theorem performReadForward_of_out_of_range (s : State) (far : 5 < (c.byte Offset.state).toNat) :
    performReadForward c s = answerOnly s .badParam (forwardOutputs 0x00 0x00 0x00 [] []) := by
  simp only [performReadForward, trunkNumber_eq_none far]

theorem performReadForward_of_not_waiting (named : k.val = (c.byte Offset.state).toNat)
    (other : (s.context k).state ≠ .awaitingHost) :
    performReadForward c s =
      answerOnly s .none_ (forwardOutputs (s.context k).state.toByte (s.context k).ticket 0x00 [] []) := by
  simp only [performReadForward, trunkNumber_eq_some named, if_neg other]

theorem performReadForward_of_waiting {node start options cls : Byte} {pattern : List Byte} {mask : Half}
    (named : k.val = (c.byte Offset.state).toNat) (waiting : (s.context k).state = .awaitingHost)
    (requester : (s.context k).requester = some node)
    (request : (s.context k).request = some (.seek start options cls pattern mask)) :
    performReadForward c s =
      answerOnly s .ok (forwardOutputs 0x04 (s.context k).ticket node pattern (s.context k).guardedHandles) := by
  have asked : (s.context k).pattern = pattern := by simp only [TrunkContext.pattern, request]
  simp only [performReadForward, trunkNumber_eq_some named, if_pos waiting, TrunkContext.node, requester, asked]
  rw [waiting]
  rfl

/-- Settles O21: the number in the slot, then whether its context waits for the host. -/
theorem readForwardReadsAWaitingSeek : Obligations.ReadForwardReadsAWaitingSeek := by
  intro s n served b outputs
  obtain ⟨-, head, -⟩ := id served
  refine ⟨_, exec_readForward served, fun far => ?badParam, fun k named => ⟨fun other => ?none, ?waiting⟩⟩
  case badParam =>
    rw [performReadForward_of_out_of_range _ far]
    exact readForward_answers head .badParam _ _ _ [] []
  case none =>
    rw [performReadForward_of_not_waiting (s := takeCommand s) named other]
    exact readForward_answers head .none_ _ _ _ [] []
  case waiting =>
    intro node start options cls pattern mask waiting requester request guarded
    rw [performReadForward_of_waiting (s := takeCommand s) named waiting requester request]
    exact readForward_answers head .ok _ _ _ pattern guarded

end Sys2Proof.Proofs
end

section
/-! PROOFS. SEEK (R130, R92). -/

namespace Sys2Proof.Proofs

open Sys2Proof.Machine Sys2Proof.Laws

variable {s : State} {c : Fin 6} {k : Fin 4} {m start options cls : Byte} {payload pattern : List Byte} {mask : Half}

theorem exec_seek (served : servesRequest c m 0x04 payload s)
    (request : parseRequest 0x04 payload = some (.seek start options cls pattern mask)) :
    exec .seek s = .next (serveSeek start options cls pattern mask c (takeRequest s)) :=
  congrArg Host.Outcome.next (trunkGrant_of_serves s selectSeek _ served (by rw [request]; rfl))

/-! ## Whether a search context is claimed -/

theorem serveSeek_of_bad_length (s : State) (bad : ¬(1 ≤ pattern.length ∧ pattern.length ≤ 16)) :
    serveSeek start options cls pattern mask c s = buildReply c (seekReply .badParam 0 []) s := if_neg bad

theorem serveSeek_of_full (good : 1 ≤ pattern.length ∧ pattern.length ≤ 16) (full : s.idleSearch = none) :
    serveSeek start options cls pattern mask c s = buildReply c (seekReply .busy 0 []) s :=
  (if_pos good).trans (by rw [full])

theorem serveSeek_of_idle (good : 1 ≤ pattern.length ∧ pattern.length ≤ 16) (lowest : s.idleSearch = some k) :
    serveSeek start options cls pattern mask c s = claimSearch c k (trunkSearch c start options cls pattern mask) s :=
  (if_pos good).trans (by rw [lowest])

/-! ## The claim -/

/-- R92, R130: a claim of a granted SEEK takes its context from the received queue and puts it into neither queue. -/
theorem claimSearch_spec (r : Search) (head : s.trunkHead = some c) :
    let t := claimSearch c k r (takeRequest s)
    takesRequest c s t ∧ keepsBut [.search, .trunk, .arb] s t
      ∧ t.context c = { s.context c with state := .serving, linked := some k }
      ∧ t.trunk.ready = s.trunk.ready
      ∧ (∀ j, j ≠ k → t.searchContext j = s.searchContext j) ∧ t.searchContext k = .running r := by
  have contexts (d : Fin 6) : (claimSearch c k r (takeRequest s)).context d =
      if c = d then { s.context c with state := .serving, linked := some k } else s.context d :=
    context_setContext _ c d _
  have searches (j : Fin 4) : (claimSearch c k r (takeRequest s)).searchContext j =
      if k = j then .running r else s.searchContext j :=
    searchContext_setSearch (takeRequest s) k j (.running r)
  refine ⟨⟨received_of_trunkHead s head, fun d other => (contexts d).trans (if_neg (Ne.symm other)), rfl⟩,
    ⟨rfl, fun b hb => ?_⟩, (contexts c).trans (if_pos rfl), rfl,
    fun j other => (searches j).trans (if_neg (Ne.symm other)), (searches k).trans (if_pos rfl)⟩
  cases b <;> first | rfl | simp at hb

/-- Settles O40: the test of the pattern length, then whether some search context is IDLE, then the claim. -/
theorem seekClaimsASearchContext : Obligations.SeekClaimsASearchContext := by
  intro s c m payload start options cls pattern mask served request reply fields
  obtain ⟨-, head, -⟩ := id served
  refine ⟨_, exec_seek served request, fun bad => ?badParam, fun good full => ?busy,
    fun good k idle lower => ?claim⟩
  case badParam =>
    rw [serveSeek_of_bad_length _ bad]
    exact buildReply_repliesWith s (reply .badParam) head []
  case busy =>
    have taken : (takeRequest s).idleSearch = none := idleSearch_eq_none_iff.mpr full
    rw [serveSeek_of_full good taken]
    exact buildReply_repliesWith s (reply .busy) head []
  case claim =>
    have lowest : (takeRequest s).idleSearch = some k := idleSearch_eq_some_iff.mpr ⟨idle, lower⟩
    rw [serveSeek_of_idle good lowest]
    exact claimSearch_spec (trunkSearch c start options cls pattern mask) head

end Sys2Proof.Proofs
end

section
/-! PROOFS. The SEEK end (R132, R133): the items it finds, and the three ways it goes on. -/

namespace Sys2Proof.Proofs

open Sys2Proof.Machine Sys2Proof.Laws

variable {s t u : State} {c : Fin 6} {results : List Handle} {cursor : Nat} {x : TrunkContext}
  {ready : List (Fin 6)} {items : List Item}

/-! ## The items (R132, steps 2 to 4) -/

/-- The items that a SEEK end of context `c` finds. -/
def seekItems (s : State) (c : Fin 6) (results : List Handle) : List Item :=
  validatedItems s (s.context c).node results

theorem revalidated_of_none {h : Handle} (invalid : s.lookup h = none) : revalidated s h = none := by
  simp only [revalidated, invalid]

theorem revalidated_of_some {h : Handle} {i : SlotNo} {e : Entry} (valid : s.lookup h = some (i, e)) :
    revalidated s h = if e.life.isLive = true ∧ e.visibility ≠ .closed then some (i, e) else none := by
  simp only [revalidated, valid]

/-! ## What a SEEK end leaves of the trunk unit -/

/-- The context when its search is over, with its items and the cursor. -/
def withItems (x : TrunkContext) (items : List Item) (cursor : Nat) : TrunkContext :=
  { x with linked := none, results := items, nextCursor := some cursor }

/-- The context when it waits for the host (R133). -/
def awaitingHost (deadline : Nat) (x : TrunkContext) : TrunkContext :=
  { x with state := .awaitingHost, deadline := some deadline }

/-- The context when its reply is built (R129). -/
def withReply (reply : Reply) (x : TrunkContext) : TrunkContext :=
  { x with state := .replyReady, linked := none, deadline := none, reply := some reply }

/-- The items and the cursor stored in context `c`. -/
def storeItems (c : Fin 6) (items : List Item) (cursor : Nat) (s : State) : State :=
  s.setContext c (withItems (s.context c) items cursor)

/-- Context `c` is left as `x`, the ready queue as `ready`; the other contexts and the received queue are as they
were. -/
structure SeekLeaves (c : Fin 6) (x : TrunkContext) (ready : List (Fin 6)) (s t : State) : Prop where
  context : t.context c = x
  others : ∀ d, d ≠ c → t.context d = s.context d
  ready : t.trunk.ready = ready
  received : t.trunk.received = s.trunk.received

theorem seekLeaves_of_trunk (left : SeekLeaves c x ready s t) (same : u.trunk = t.trunk) :
    SeekLeaves c x ready s u := by
  obtain ⟨context, others, queue, received⟩ := left
  have contexts (d : Fin 6) : u.context d = t.context d := by simp only [State.context, same]
  exact ⟨(contexts c).trans context, fun d other => (contexts d).trans (others d other),
    (congrArg TrunkUnit.ready same).trans queue, (congrArg TrunkUnit.received same).trans received⟩

theorem seekLeaves_storeItems :
    SeekLeaves c (withItems (s.context c) items cursor) s.trunk.ready s (storeItems c items cursor s) where
  context := context_setContext_self s c _
  others d other := (context_setContext s c d _).trans (if_neg (Ne.symm other))
  ready := rfl
  received := rfl

theorem seekLeaves_setContext (left : SeekLeaves c x ready s t) (y : TrunkContext) :
    SeekLeaves c y ready s (t.setContext c y) where
  context := context_setContext_self t c y
  others d other := ((context_setContext t c d y).trans (if_neg (Ne.symm other))).trans (left.others d other)
  ready := left.ready
  received := left.received

theorem seekLeaves_buildReply (left : SeekLeaves c x ready s t) (reply : Reply) :
    SeekLeaves c (withReply reply x) (ready ++ [c]) s (buildReply c reply t) where
  context := by rw [context_buildReply, if_pos rfl, left.context]; rfl
  others d other := ((context_buildReply t c d reply).trans (if_neg (Ne.symm other))).trans (left.others d other)
  ready := congrArg (· ++ [c]) left.ready
  received := left.received

/-! ## The wake event (R133, R178) -/

/-- In DOZE a wake event is captured exactly if `captures` says so. -/
theorem captures_iff_of_doze (doze : s.doze.host = .doze) :
    s.captures = true ↔ s.doze.wakeEnable = true ∧ s.doze.record = none := by
  simp [State.captures, doze]

theorem wakeEvent_effect (w : WakeRecord) (doze : s.doze.host = .doze) :
    setsFlags (if s.captures then [.wake] else []) s (wakeEvent w s)
      ∧ (wakeEvent w s).doze = if s.captures then { s.doze with record := some w } else s.doze := by
  by_cases captured : s.captures = true
  · rw [wakeEvent_of s w ((captures_iff_of_doze doze).mp captured), if_pos captured, if_pos captured]
    exact ⟨setsFlags_congr_states (setFlag_setsFlags _ .wake) rfl rfl, rfl⟩
  · rw [wakeEvent_of_not s w (mt (captures_iff_of_doze doze).mpr captured), if_neg captured, if_neg captured]
    exact ⟨setsFlags_of_same rfl, rfl⟩

/-- The item whose handle a SEEK end in DOZE offers as a wake event: the first guarded one whose entry has WAKE on. -/
def wakingItem (s : State) (items : List Item) : Option Item :=
  (items.filter (fun y => y.guarded)).find? (itemWakes s)

theorem wakingItem_eq_find? (s : State) (items : List Item) :
    wakingItem s items = items.find? (fun y => y.guarded && itemWakes s y) := by
  simp [wakingItem, List.find?_filter]

theorem seekWake_of_none (requester ticket : Byte) (quiet : wakingItem s items = none) :
    seekWake items requester ticket s = s := by
  rw [wakingItem] at quiet
  simp only [seekWake, quiet]

theorem seekWake_of_some {y : Item} (requester ticket : Byte)
    (waking : wakingItem s items = some y) :
    seekWake items requester ticket s = wakeEvent (.seek y.handle requester ticket) s := by
  rw [wakingItem] at waking
  simp only [seekWake, waking]

theorem seekWake_trunk (items : List Item) (requester ticket : Byte) (s : State) :
    (seekWake items requester ticket s).trunk = s.trunk := by
  cases waking : wakingItem s items with
  | none => rw [seekWake_of_none requester ticket waking]
  | some y =>
    rw [seekWake_of_some requester ticket waking]
    obtain ⟨-, -, -, -, -, -, trunk, -⟩ := wakeEvent_blocks s (.seek y.handle requester ticket)
    exact trunk

/-- In DOZE the waking item is captured, if a wake event would be. -/
theorem seekWake_effect (items : List Item) (requester ticket : Byte) (doze : s.doze.host = .doze) :
    let capture := if s.captures then wakingItem s items else none
    let t := seekWake items requester ticket s
    setsFlags (if capture.isSome then [.wake] else []) s t
      ∧ t.doze = capture.elim s.doze (fun y => { s.doze with record := some (.seek y.handle requester ticket) }) := by
  cases waking : wakingItem s items with
  | none =>
    rw [seekWake_of_none requester ticket waking]
    simpa using setsFlags_of_same rfl
  | some y =>
    rw [seekWake_of_some requester ticket waking]
    have effect := wakeEvent_effect (.seek y.handle requester ticket) doze
    cases captured : s.captures <;> simpa [captured] using effect

/-! ## The three ways on (R132, R133) -/

/-- With no guarded item the reply carries every item. -/
theorem seekEnd_of_open (found : seekItems s c results = items) (noGuarded : items.any (fun y => y.guarded) = false) :
    seekEnd c results cursor s = buildReply c (seekReply .ok cursor items) (storeItems c items cursor s) := by
  subst found
  exact if_neg (Bool.eq_false_iff.mp noGuarded)

/-- With a guarded item, in AWAKE, the seek is forwarded to the host. -/
theorem seekEnd_of_awake (found : seekItems s c results = items) (guarded : items.any (fun y => y.guarded) = true)
    (awake : s.doze.host = .awake) :
    seekEnd c results cursor s =
      setFlag .fwd ((storeItems c items cursor s).setContext c
        (awaitingHost s.params.fwdDeadline (withItems (s.context c) items cursor))) := by
  subst found
  simp only [seekEnd, setContext_doze, awake, context_setContext_self]
  exact if_pos guarded

/-- With a guarded item, in DOZE, the reply is DEFERRED with the open items, and a guarded item may wake the host. -/
theorem seekEnd_of_doze (found : seekItems s c results = items) (guarded : items.any (fun y => y.guarded) = true)
    (doze : s.doze.host = .doze) :
    seekEnd c results cursor s =
      seekWake items (s.context c).node (s.context c).ticket
        (buildReply c (seekReply .deferred cursor (items.filter (fun y => !y.guarded)))
          (storeItems c items cursor s)) := by
  subst found
  simp only [seekEnd, setContext_doze, doze]
  exact if_pos guarded

/-! ## What a SEEK end leaves -/

theorem seekEnd_effect_of_open (found : seekItems s c results = items)
    (noGuarded : items.any (fun y => y.guarded) = false) :
    let t := seekEnd c results cursor s
    SeekLeaves c (withReply (seekReply .ok cursor items) (withItems (s.context c) items cursor)) (s.trunk.ready ++ [c])
        s t
      ∧ setsFlags [] s t ∧ t.doze = s.doze := by
  rw [seekEnd_of_open found noGuarded]
  exact ⟨seekLeaves_buildReply seekLeaves_storeItems _, setsFlags_of_same rfl, rfl⟩

theorem seekEnd_effect_of_awake (found : seekItems s c results = items)
    (guarded : items.any (fun y => y.guarded) = true) (awake : s.doze.host = .awake) :
    let t := seekEnd c results cursor s
    SeekLeaves c (awaitingHost s.params.fwdDeadline (withItems (s.context c) items cursor)) s.trunk.ready s t
      ∧ setsFlags [.fwd] s t ∧ t.doze = s.doze := by
  rw [seekEnd_of_awake found guarded awake]
  exact ⟨seekLeaves_of_trunk (seekLeaves_setContext seekLeaves_storeItems _) rfl,
    setsFlags_congr_states (setFlag_setsFlags _ .fwd) rfl rfl, rfl⟩

theorem seekEnd_effect_of_doze (found : seekItems s c results = items)
    (guarded : items.any (fun y => y.guarded) = true) (doze : s.doze.host = .doze) :
    let t := seekEnd c results cursor s
    let reply := seekReply .deferred cursor (items.filter (fun y => !y.guarded))
    let capture := if s.captures then wakingItem s items else none
    SeekLeaves c (withReply reply (withItems (s.context c) items cursor)) (s.trunk.ready ++ [c]) s t
      ∧ setsFlags (if capture.isSome then [.wake] else []) s t
      ∧ t.doze = capture.elim s.doze
          (fun y => { s.doze with record := some (.seek y.handle (s.context c).node (s.context c).ticket) }) := by
  rw [seekEnd_of_doze found guarded doze]
  extract_lets t reply capture
  obtain ⟨flags, woken⟩ := seekWake_effect (s := buildReply c reply (storeItems c items cursor s)) items
    (s.context c).node (s.context c).ticket doze
  exact ⟨seekLeaves_of_trunk (seekLeaves_buildReply seekLeaves_storeItems reply) (seekWake_trunk _ _ _ _),
    setsFlags_congr_states flags rfl rfl, woken⟩

/-- Whatever its items, a SEEK end writes no context but its own, and leaves the received queue. -/
theorem seekEnd_others (c : Fin 6) (results : List Handle) (cursor : Nat) (s : State) :
    let t := seekEnd c results cursor s
    t.trunk.received = s.trunk.received ∧ ∀ d, d ≠ c → t.context d = s.context d := by
  cases guarded : (seekItems s c results).any (fun y => y.guarded) with
  | false =>
    obtain ⟨left, -⟩ := seekEnd_effect_of_open (cursor := cursor) rfl guarded
    exact ⟨left.received, left.others⟩
  | true =>
    cases host : s.doze.host with
    | awake =>
      obtain ⟨left, -⟩ := seekEnd_effect_of_awake (cursor := cursor) rfl guarded host
      exact ⟨left.received, left.others⟩
    | doze =>
      obtain ⟨left, -⟩ := seekEnd_effect_of_doze (cursor := cursor) rfl guarded host
      exact ⟨left.received, left.others⟩

end Sys2Proof.Proofs
end

section
/-! PROOFS. SEARCH_STEP at the end of a trunk-owned search: the step, then its SEEK end (R99, R132, R133). -/

namespace Sys2Proof.Proofs

open Sys2Proof.Machine Sys2Proof.Laws

/-- A walk moves a search of the same owner. -/
theorem walk_owner (s : State) (n : Nat) (r : Search) : (walk s n r).1.owner = r.owner := by
  induction n generalizing r with
  | zero => rfl
  | succ n ih =>
    unfold walk
    split
    · extract_lets i moved
      split
      · rfl
      · split
        · rfl
        · exact ih _
    · rfl

/-- The items of R132, with its tests written out. -/
theorem validatedItems_eq_filterMap (s : State) (node : Byte) (results : List Handle) :
    validatedItems s node results = results.filterMap (fun h =>
      (s.lookup h).bind (fun p =>
        if p.2.life.isLive = true ∧ p.2.visibility ≠ .closed then
          some { handle := h, reach := p.2.reach, cls := p.2.cls, visibility := p.2.visibility
                 guarded := needsConsent node p.2 }
        else none)) := by
  refine congrArg (fun f => results.filterMap f) (funext fun h => ?_)
  cases valid : s.lookup h with
  | none => simp only [revalidated_of_none valid, Option.bind_none]
  | some p =>
    rw [revalidated_of_some valid, Option.bind_some]
    by_cases kept : p.2.life.isLive = true ∧ p.2.visibility ≠ .closed
    · simp only [if_pos kept]
    · simp only [if_neg kept]

/-- Settles O54: the items first; then all are open, or the host is AWAKE, or in DOZE. -/
theorem seekEndDecidesTheReply : Obligations.SeekEndDecidesTheReply := by
  intro s k c node r q code settled granted next running owner walked requester x items wakes replied reply
  have ran := exec_searchStep settled granted next running
  have owned := walk_owner s (stepSlots r.burst) r
  rw [show walk s (stepSlots r.burst) r = (q, some code) from walked] at ran owned
  replace owned : q.owner = .trunk c := owned.trans owner
  obtain ⟨-, searches⟩ := endSearch_others k q (some code) (takeSearch k s)
  obtain ⟨idle, -, kept⟩ := endSearch_takeSearch_of_trunk (s := s) (k := k) code owned
  rw [endSearch_of_trunk code owned] at ran searches idle kept
  have named : x.node = node := by simp only [TrunkContext.node, x, requester, Option.getD_some]
  have found : seekItems ((takeSearch k s).setSearch k .idle) c q.results = items := by
    change validatedItems s x.node q.results = items
    rw [named, validatedItems_eq_filterMap]
    refine congrArg (fun f => q.results.filterMap f) (funext fun h => ?_)
    cases s.lookup h <;> rfl
  have waking : wakingItem s items = wakes := by
    rw [wakingItem_eq_find?]
    refine congrArg (fun p => items.find? p) (funext fun y => ?_)
    cases valid : s.lookup y.handle <;> simp only [itemWakes, valid]
  obtain ⟨received, contexts⟩ := seekEnd_others c q.results q.cursor ((takeSearch k s).setSearch k .idle)
  refine ⟨_, ran, keepsBut_mono kept (by simp), idle, searches, received, contexts, fun allOpen => ?allOpen,
    fun guarded awake => ?awake, fun guarded doze => ?doze⟩
  case allOpen =>
    obtain ⟨left, flags, same⟩ := seekEnd_effect_of_open (cursor := q.cursor) found (by simpa using allOpen)
    exact ⟨⟨left.context, left.ready⟩, flags, same⟩
  case awake =>
    obtain ⟨left, flags, same⟩ := seekEnd_effect_of_awake (cursor := q.cursor) found guarded awake
    exact ⟨left.context, left.ready, flags, same⟩
  case doze =>
    obtain ⟨left, flags, taken⟩ := seekEnd_effect_of_doze (cursor := q.cursor) found guarded doze
    rw [show wakingItem ((takeSearch k s).setSearch k .idle) items = wakes from waking] at flags taken
    rw [show ((takeSearch k s).setSearch k .idle).context c = x from rfl, named] at taken
    refine ⟨⟨left.context, left.ready⟩, flags, taken.trans ?_⟩
    change (if s.captures then wakes else none).elim _ _ = _
    cases (if s.captures then wakes else none) <;> rfl

end Sys2Proof.Proofs
end

section
/-! PROOFS. SET_PARAM (R158): the table of parameters one row at a time, then the command. -/

namespace Sys2Proof.Proofs

open Sys2Proof.Machine Sys2Proof.Laws

variable {s : State} {n : Fin 4} {p q : Params} {param : Byte} {v old : Nat} {valid : Prop} {test : Bool}

/-! ## The rows of the table (R158) -/

/-- A row of R158, for the id `param`: a value for which `valid` holds is taken, which gives the parameters `q` and is
read back from them; any other value is refused; `old` is the value in force before. -/
structure ParamRow (p : Params) (param : Byte) (v : Nat) (valid : Prop) (q : Params) (old : Nat) : Prop where
  taken : valid → p.withValue param v = some q
  readBack : valid → q.value param = v
  refused : ¬valid → p.withValue param v = none
  inForce : p.value param = old

/-- A parameter whose value is taken if one test holds. -/
theorem paramRow_of_takeIf (set : p.withValue param v = takeIf test q) (range : test = true ↔ valid)
    (readBack : valid → q.value param = v) (inForce : p.value param = old) : ParamRow p param v valid q old where
  taken inside := set.trans (if_pos (range.mpr inside))
  readBack := readBack
  refused outside := set.trans (if_neg (mt range.mp outside))
  inForce := inForce

/-- A test of a lower and an upper bound. -/
theorem and_decide_iff {a b : Prop} [Decidable a] [Decidable b] : (decide a && decide b) = true ↔ a ∧ b := by simp

theorem paramRow_dirAddress :
    ParamRow p 0x01 v (112 ≤ v ∧ v ≤ 127) { p with dirAddress := BitVec.ofNat 8 v } p.dirAddress.toNat :=
  paramRow_of_takeIf rfl and_decide_iff
    (fun ⟨_, most⟩ => (BitVec.toNat_ofNat v 8).trans (Nat.mod_eq_of_lt (by omega))) rfl

theorem paramRow_leaseMin : ParamRow p 0x02 v (1 ≤ v ∧ v ≤ p.leaseMax) { p with leaseMin := v } p.leaseMin :=
  paramRow_of_takeIf rfl and_decide_iff (fun _ => rfl) rfl

theorem paramRow_leaseMax : ParamRow p 0x03 v (1 ≤ v ∧ p.leaseMin ≤ v) { p with leaseMax := v } p.leaseMax :=
  paramRow_of_takeIf rfl and_decide_iff (fun _ => rfl) rfl

theorem paramRow_grace : ParamRow p 0x04 v (v ≤ 255) { p with grace := v } p.grace :=
  paramRow_of_takeIf rfl decide_eq_true_iff (fun _ => rfl) rfl

theorem paramRow_lockMax : ParamRow p 0x05 v (1 ≤ v ∧ v ≤ 255) { p with lockMax := v } p.lockMax :=
  paramRow_of_takeIf rfl and_decide_iff (fun _ => rfl) rfl

theorem paramRow_fwdDeadline : ParamRow p 0x06 v (1 ≤ v ∧ v ≤ 255) { p with fwdDeadline := v } p.fwdDeadline :=
  paramRow_of_takeIf rfl and_decide_iff (fun _ => rfl) rfl

theorem paramRow_msDivider : ParamRow p 0x07 v (999 ≤ v ∧ v ≤ 39999) { p with msDivider := v } p.msDivider :=
  paramRow_of_takeIf rfl and_decide_iff (fun _ => rfl) rfl

/-- The two bits of TRUNK_FLAGS are the whole of a value up to 3. -/
theorem paramRow_trunkFlags :
    ParamRow p 0x08 v (v ≤ 3) { p with trunkWatch := v.testBit 0, trunkWake := v.testBit 1 }
      (p.trunkWatch.toNat + 2 * p.trunkWake.toNat) := by
  have bits : ∀ w ≤ 3, (w.testBit 0).toNat + 2 * (w.testBit 1).toNat = w := by decide
  exact paramRow_of_takeIf rfl decide_eq_true_iff (bits v) rfl

/-- LINK_SPEED is tested value by value. -/
theorem paramRow_linkSpeed :
    ParamRow p 0x09 v (v = 100 ∨ v = 400) { p with linkSpeed := if v = 100 then .kbit100 else .kbit400 }
      p.linkSpeed.toNat := by
  by_cases slow : v = 100
  · subst slow
    exact ⟨fun _ => rfl, fun _ => rfl, fun outside => absurd (.inl rfl) outside, rfl⟩
  · rw [if_neg slow]
    exact paramRow_of_takeIf (if_neg slow) (decide_eq_true_iff.trans (or_iff_right slow).symm)
      (fun inside => (inside.resolve_left slow).symm) rfl

/-- An id that names none of the nine has no valid value, and 0 stands for its value in force. -/
theorem paramRow_of_unknown (unknown : param.toNat = 0 ∨ 9 < param.toNat) : ParamRow p param v False p 0 := by
  have differs : ∀ k : Byte, 1 ≤ k.toNat → k.toNat ≤ 9 → param ≠ k := by
    rintro k hmin hmax rfl
    omega
  have none_taken : p.withValue param v = none := by simp [Params.withValue, differs]
  have none_named : p.value param = 0 := by simp [Params.value, differs]
  exact ⟨False.elim, False.elim, fun _ => none_taken, none_named⟩

/-! ## The command -/

theorem exec_setParam (served : servesCommand n 0x12 s) :
    exec .setParam s = .next (finishCommand n (performSetParam (s.commandSlot n) (takeCommand s))) :=
  congrArg Host.Outcome.next (commandGrant_isCode performSetParam served)

theorem keepsBut_setParams (q : Params) : keepsBut [.params] s (s.setParams q) :=
  ⟨rfl, fun b hb => by cases b <;> first | rfl | simp at hb⟩

/-- A command that puts parameters in force. -/
theorem finishCommand_of_params (head : s.commandHead = some n) (q : Params) (v : Half) :
    let t := finishCommand n (answerOnly ((takeCommand s).setParams q) .ok (halfAt Offset.value v))
    completesWith n .ok (halfAt Offset.value v) [.params] s t ∧ t.params = q := by
  have grant : keepsBut [.params, .arb, .port, .notify] s (takeCommand s) := keepsBut_mono takeCommand_keeps (by simp)
  have write : keepsBut [.params, .arb, .port, .notify] (takeCommand s) ((takeCommand s).setParams q) :=
    keepsBut_mono (keepsBut_setParams q) (by simp)
  have ⟨once, free⟩ := value_outputs v
  exact ⟨finishCommand_completesWith s (answerOnly _ .ok _) head rfl rfl rfl (keepsBut_trans grant write) once free, rfl⟩

/-- A served SET_PARAM does what the row of its id says of its value. -/
theorem setParam_completes (head : s.commandHead = some n)
    (row : ParamRow s.params param ((s.commandSlot n).half Offset.value).toNat valid q old)
    (named : ((s.commandSlot n).byte Offset.selector).toNat = param.toNat) :
    let t := finishCommand n (performSetParam (s.commandSlot n) (takeCommand s))
    (valid → completesWith n .ok
        (halfAt Offset.value (BitVec.ofNat 16 ((s.commandSlot n).half Offset.value).toNat)) [.params] s t ∧ t.params = q)
      ∧ (¬valid → completesWith n .badParam (halfAt Offset.value (BitVec.ofNat 16 old)) [] s t) := by
  obtain rfl := BitVec.eq_of_toNat_eq named
  obtain ⟨taken, readBack, refused, inForce⟩ := row
  refine ⟨fun inside => ?_, fun outside => ?_⟩
  · simp only [performSetParam, takeCommand_params, taken inside, readBack inside]
    exact finishCommand_of_params head q _
  · simp only [performSetParam, takeCommand_params, refused outside, inForce]
    have ⟨once, free⟩ := value_outputs (BitVec.ofNat 16 old)
    exact answerOnly_completesWith s .badParam _ head once free []

/-- Settles O24: each id has its row of the table, and the command does what the row says. -/
theorem setParamTakesAValueInRange : Obligations.SetParamTakesAValueInRange := by
  refine ⟨rfl, fun s n served => ?_⟩
  intro number v p
  obtain ⟨-, head, -⟩ := id served
  exact ⟨_, exec_setParam served,
    setParam_completes head paramRow_dirAddress,
    setParam_completes head paramRow_leaseMin,
    setParam_completes head paramRow_leaseMax,
    setParam_completes head paramRow_grace,
    setParam_completes head paramRow_lockMax,
    setParam_completes head paramRow_fwdDeadline,
    setParam_completes head paramRow_msDivider,
    setParam_completes head paramRow_trunkFlags,
    setParam_completes head paramRow_linkSpeed,
    fun unknown => (setParam_completes head (paramRow_of_unknown unknown) rfl).2 not_false⟩

end Sys2Proof.Proofs
end

section
/-! PROOFS. COLLECT (R165, R166): the scan from the slot after the cursor, and what it leaves of the entry it finds. -/

namespace Sys2Proof.Proofs

open Sys2Proof.Machine Sys2Proof.Laws

variable {s : State} {n : Fin 4} {i j : SlotNo} {e : Entry}

theorem exec_collect (served : servesCommand n 0x0E s) :
    exec .collect s = .next (finishCommand n (performCollect (s.commandSlot n) (takeCommand s))) :=
  congrArg Host.Outcome.next (commandGrant_isCode performCollect served)

/-! ## The scan (R165) -/

/-- A slot whose entry has marks. -/
def hasMarks (s : State) (i : SlotNo) : Bool := (s.entryOf i).any (fun e => decide (e.marks ≠ Marks.none_))

/-- How many slots the scan passes before slot `i`: the one after the cursor is at 0, the cursor's own at 255. -/
def scanDistance (cursor i : SlotNo) : SlotNo := i - cursor - 1

theorem scanDistance_at (cursor k : SlotNo) : scanDistance cursor (cursor + 1 + k) = k := by
  simp only [scanDistance, Fin.ext_iff, Fin.val_add, Fin.val_sub, Fin.val_one]
  omega

theorem at_scanDistance (cursor i : SlotNo) : cursor + 1 + scanDistance cursor i = i := by
  simp only [scanDistance, Fin.ext_iff, Fin.val_add, Fin.val_sub, Fin.val_one]
  omega

/-- The slots that the scan meets before slot `i` are those at a smaller distance. -/
theorem collectOrder_split (cursor i : SlotNo) :
    ∃ before after, collectOrder cursor = before ++ i :: after
      ∧ ∀ j ∈ before, scanDistance cursor j < scanDistance cursor i := by
  obtain ⟨before, after, split⟩ := List.append_of_mem (List.mem_finRange (scanDistance cursor i))
  have ascending : (before ++ scanDistance cursor i :: after).Pairwise (· < ·) :=
    split ▸ List.pairwise_lt_finRange 256
  obtain ⟨-, -, lower⟩ := List.pairwise_append.mp ascending
  refine ⟨before.map (cursor + 1 + ·), after.map (cursor + 1 + ·), ?_, fun j hj => ?_⟩
  · simp only [collectOrder, allSlots, split, List.map_append, List.map_cons, at_scanDistance]
  · obtain ⟨k, hk, rfl⟩ := List.mem_map.mp hj
    rw [scanDistance_at]
    exact lower k hk _ List.mem_cons_self

theorem nextMarked_of_none (unmarked : ∀ i, hasMarks s i = false) : s.nextMarked = none := by
  refine List.findSome?_eq_none_iff.mpr fun i _ => ?_
  have quiet := unmarked i
  cases entry : s.entryOf i with
  | none => rfl
  | some e =>
    rw [hasMarks, entry] at quiet
    exact if_neg (of_decide_eq_false quiet)

theorem nextMarked_of_first (entry : s.entryOf i = some e) (marked : hasMarks s i = true)
    (first : ∀ j, scanDistance s.dir.collectCursor j < scanDistance s.dir.collectCursor i → hasMarks s j = false) :
    s.nextMarked = some (i, e) := by
  obtain ⟨before, after, split, lower⟩ := collectOrder_split s.dir.collectCursor i
  refine List.findSome?_eq_some_iff.mpr ⟨before, i, after, split, ?_, fun j hj => ?_⟩
  · rw [hasMarks, entry] at marked
    simp only [entry]
    exact if_pos (of_decide_eq_true marked)
  · have quiet := first j (lower j hj)
    cases passed : s.entryOf j with
    | none => rfl
    | some d =>
      rw [hasMarks, passed] at quiet
      exact if_neg (of_decide_eq_false quiet)

/-! ## What is left of the entry (R166) -/

/-- The directory with the marks of an entry emptied and the cursor at its slot. -/
def emptied (i : SlotNo) (e : Entry) (s : State) : State :=
  let t := s.setEntry i { e with marks := Marks.none_ }
  t.setDir { t.dir with collectCursor := i }

theorem slot_emptied_self : (emptied i e s).slot i = { s.slot i with entry := some { e with marks := Marks.none_ } } :=
  slot_setEntry_self s i _

theorem slot_emptied_of_ne (h : j ≠ i) : (emptied i e s).slot j = s.slot j :=
  slot_setEntry_of_ne s _ h.symm

theorem keepsBut_emptied : keepsBut [.dir] s (emptied i e s) :=
  keepsBut_trans (keepsBut_setEntry i _) (keepsBut_setDir _)

theorem collectEntry_of_spent (spent : e.life = .spent) : collectEntry i e s = freeSlot i (emptied i e s) :=
  if_pos ((isSpent_iff _).mpr spent)

theorem collectEntry_of_not_spent (kept : e.life ≠ .spent) : collectEntry i e s = emptied i e s :=
  if_neg (mt (isSpent_iff _).mp kept)

theorem keepsBut_collectEntry : keepsBut [.dir] s (collectEntry i e s) := by
  by_cases spent : e.life = .spent
  · rw [collectEntry_of_spent spent]
    exact keepsBut_trans keepsBut_emptied (keepsBut_freeSlot i)
  · rw [collectEntry_of_not_spent spent]
    exact keepsBut_emptied

/-- R166: the cursor names the slot, no other slot changes, and the entry is left without marks or, if SPENT, freed. -/
theorem collectEntry_spec (i : SlotNo) (e : Entry) (s : State) :
    let t := collectEntry i e s
    t.dir.collectCursor = i ∧ (∀ j, j ≠ i → t.slot j = s.slot j)
      ∧ (if e.life = .spent then t.slot i = { s.slot i with entry := none } ∧ t.dir.free = s.dir.free ++ [i]
        else t.slot i = { s.slot i with entry := some { e with marks := Marks.none_ } } ∧ t.dir.free = s.dir.free) := by
  by_cases spent : e.life = .spent
  · simp only [collectEntry_of_spent spent, if_pos spent]
    refine ⟨rfl, fun j hj => ?_, ?_, rfl⟩
    · rw [slot_freeSlot_of_ne _ hj.symm, slot_emptied_of_ne hj]
    · rw [slot_freeSlot_self, slot_emptied_self]
  · simp only [collectEntry_of_not_spent spent, if_neg spent]
    exact ⟨rfl, fun j hj => slot_emptied_of_ne hj, slot_emptied_self, rfl⟩

/-! ## The command -/

/-- The offsets that COLLECT writes. -/
def collectOffsets : List (Fin 48) :=
  [Offset.handle, Offset.handle + 1, Offset.state, Offset.marks, Offset.tagLength]
    ++ (List.finRange 16).map dataOffset

theorem collectOutputs_offsets (h : Handle) (state marks : Byte) (tag : List Byte) :
    (collectOutputs h state marks tag).map (fun p => p.1) = collectOffsets := by
  simp [collectOutputs, collectOffsets, halfAt, dataOutputs_offsets]

/-- COLLECT writes no field twice, and not RESULT. -/
theorem collectOffsets_distinct : collectOffsets.Nodup ∧ Offset.result ∉ collectOffsets := by decide

theorem performCollect_of_none (c : CommandSlot) (none_left : s.nextMarked = none) :
    performCollect c s = answerOnly s .none_ (collectOutputs nullHandle 0x00 0x00 []) := by
  simp only [performCollect, none_left]

theorem performCollect_of_some (c : CommandSlot) (next : s.nextMarked = some (i, e)) :
    performCollect c s =
      answerOnly (collectEntry i e s) .ok (collectOutputs (s.handleOf i) e.life.toByte e.marks.toByte e.tag) := by
  simp only [performCollect, next]

/-- Settles O20: the scan finds nothing, or the marked entry at the least distance after the cursor. -/
theorem collectReturnsMarksInRotation : Obligations.CollectReturnsMarksInRotation := by
  intro s n served outputs marked distance
  obtain ⟨-, head, -⟩ := id served
  obtain ⟨once, free⟩ := collectOffsets_distinct
  refine ⟨_, exec_collect served, fun unmarked => ?none, fun i e entry has first => ?found⟩
  case none =>
    have nothing : (takeCommand s).nextMarked = none := nextMarked_of_none unmarked
    rw [performCollect_of_none _ nothing]
    exact answerOnly_of_offsets head (collectOutputs_offsets _ _ _ _) once free
  case found =>
    have next : (takeCommand s).nextMarked = some (i, e) := nextMarked_of_first entry has first
    rw [performCollect_of_some _ next]
    have named := collectOutputs_offsets (s.handleOf i) e.life.toByte e.marks.toByte e.tag
    have answer : completesWith n .ok (collectOutputs (s.handleOf i) e.life.toByte e.marks.toByte e.tag) [.dir] s _ :=
      finishCommand_of_dir (answerOnly (collectEntry i e (takeCommand s)) .ok _) head keepsBut_collectEntry
        (named ▸ once) fun p hp result => free (named ▸ result ▸ List.mem_map_of_mem hp)
    exact ⟨answer, collectEntry_spec i e (takeCommand s)⟩

end Sys2Proof.Proofs
end

section
/-! PROOFS. Writes to FLAGS, TRUNK CAUSE and ENABLES (R169 to R171, R181). -/

namespace Sys2Proof.Proofs

open Sys2Proof.Machine Sys2Proof.Laws

variable {s : State} {v : Byte}

/-! ## Write 1 to clear (R146) -/

/-- A bit written 1 is cleared, a bit written 0 kept. -/
theorem getLsbD_clearOnes (held written : Byte) (k : Nat) :
    (clearOnes held written).getLsbD k = (held.getLsbD k && !written.getLsbD k) := by
  rw [clearOnes, BitVec.getLsbD_and, BitVec.getLsbD_not]
  by_cases inside : k < 8
  · simp [inside]
  · simp [BitVec.getLsbD_of_ge held k (Nat.not_lt.mp inside)]

theorem flag_writeFlags (f : Flag) : (writeFlags v s).flag f = (s.flag f && !v.getLsbD f.bit) :=
  getLsbD_clearOnes s.notify.flags v f.bit

theorem cause_writeCause (c : Cause) : (writeCause v s).cause c = (s.cause c && !v.getLsbD c.bit) :=
  getLsbD_clearOnes s.notify.cause v c.bit

/-! ## The wake record (R181) -/

/-- A write to FLAGS changes of doze control the record alone, which the bit of WAKE discards. -/
theorem doze_writeFlags :
    (writeFlags v s).doze = { s.doze with record := if v.getLsbD Flag.wake.bit then none else s.doze.record } := by
  rw [writeFlags_doze]
  split <;> rfl

/-- Without a record the WAKE output is released (R183). -/
theorem wakePin_of_no_record (discarded : s.doze.record = none) : s.wakePin = false := by
  simp [State.wakePin, discarded]

/-! ## Frames -/

/-- A state whose notification unit was replaced differs in it alone. -/
theorem keepsBut_setNotify (q : Notify) : keepsBut [.notify] s { s with notify := q } :=
  ⟨rfl, fun b hb => by cases b <;> first | rfl | simp at hb⟩

theorem keepsBut_writeFlags : keepsBut [.notify, .doze] s (writeFlags v s) :=
  ⟨rfl, fun b hb => by cases b <;> first | rfl | simp at hb⟩

theorem keepsBut_writeCause : keepsBut [.notify] s (writeCause v s) := keepsBut_setNotify _

theorem keepsBut_writeEnables : keepsBut [.notify] s (writeEnables v s) := keepsBut_setNotify _

/-! ## The port (R147) -/

/-- From load end on, with HRST high, the port takes a write. -/
theorem portWrite_of_open (write : State → State) (settled : s.settled = true) (ended : s.loadEnded = true)
    (high : s.port.hrstLow = false) : portWrite write (settle s) = write s := by
  rw [settle_of_settled s settled]
  exact if_pos (by simp [State.portOpen, ended, high])

/-- Before load end the port ignores a write. -/
theorem portWrite_of_loading (write : State → State) (settled : s.settled = true) (loading : s.loadEnded = false) :
    portWrite write (settle s) = s := by
  rw [settle_of_settled s settled]
  exact if_neg (by simp [State.portOpen, loading])

/-- Settles O29: before load end the byte is ignored; after it, each register has its own write. -/
theorem flagCauseAndEnableWrites : Obligations.FlagCauseAndEnableWrites := by
  intro s v settled
  refine ⟨fun loading => ?ignored, fun ended high => ?taken⟩
  case ignored => exact congrArg Host.Outcome.next (portWrite_of_loading (writeFlags v) settled loading)
  case taken =>
    have taken (write : State → State) : portWrite write (settle s) = write s :=
      portWrite_of_open write settled ended high
    refine ⟨⟨writeFlags v s, congrArg Host.Outcome.next (taken (writeFlags v)), keepsBut_writeFlags, flag_writeFlags,
        rfl, rfl, doze_writeFlags, fun clears => ?_⟩,
      ⟨writeCause v s, congrArg Host.Outcome.next (taken (writeCause v)), keepsBut_writeCause, cause_writeCause, rfl, rfl⟩,
      ⟨writeEnables v s, congrArg Host.Outcome.next (taken (writeEnables v)), keepsBut_writeEnables, rfl⟩⟩
    refine wakePin_of_no_record ?_
    rw [doze_writeFlags]
    exact if_pos clears

end Sys2Proof.Proofs
end

section
/-! PROOFS. What a row can change. Every command answers a next state; each row but those of the ticks works on the state
in which what is due has been taken; and a table says which aspects of the state a row may change. -/

namespace Sys2Proof.Proofs

open Sys2Proof.Machine Sys2Proof.Laws

variable {s t u : State}

/-! ## Lists and conditions -/

theorem nodup_append_singleton {α : Type} {l : List α} {a : α} (nodup : l.Nodup) (fresh : a ∉ l) : (l ++ [a]).Nodup :=
  List.nodup_append.mpr ⟨nodup, List.pairwise_singleton _ a,
    fun _ hx _ hy same => fresh (List.mem_singleton.mp hy ▸ same ▸ hx)⟩

theorem filterMap_of_agree {α β : Type} {f g : α → Option β} {l : List α} (agree : ∀ a, f a = g a) :
    l.filterMap f = l.filterMap g := by rw [funext agree]

theorem getD_of_lt {α : Type} {l : List α} {n : Nat} {d : α} (within : n < l.length) : l.getD n d = l[n] := by
  rw [List.getD_eq_getElem?_getD, List.getElem?_eq_getElem within, Option.getD_some]

/-- Two choices by conditions that say the same. -/
theorem ite_of_iff {α : Sort _} {p q : Prop} [Decidable p] [Decidable q] (same : p ↔ q) (x y : α) :
    (if p then x else y) = if q then x else y :=
  ite_congr (propext same) (fun _ => rfl) fun _ => rfl

/-! ## The state after a row -/

/-- The state that a command answers; every command answers one (`exec_eq_next`). -/
def after (i : Instr) (s : State) : State :=
  match exec i s with
  | .next t => t
  | .fault _ | .refused _ => s

theorem exec_eq_next (i : Instr) (s : State) : exec i s = .next (after i s) := by cases i <;> rfl

/-- The rows that do not begin with what is due: a full reset, and those that take one consequence of a tick (log 3). -/
def tickRows : List Instr := [.fullReset, .trunkFault, .faultRelease, .tenMsTick, .deadlineExpiry, .secondTick]

/-- Every other row begins with what is due (log 3). -/
theorem exec_settle {i : Instr} (other : i ∉ tickRows) (s : State) : exec i s = exec i (settle s) := by
  have twice : settle (settle s) = settle s := settle_settle s
  cases i with
  | fullReset | trunkFault | faultRelease | tenMsTick | deadlineExpiry | secondTick => exact absurd (by decide) other
  | _ =>
    rw [exec_eq_next, exec_eq_next]
    simp only [after, exec, execLoadStart, execConfigRead, execPresetCreate, execLoadEnd, execHostReset, execMsTick,
      execSweep, execCreate, execAmend, execPutAttr, execDropAttr, execRetire, execRead, execReadAttr, execLock,
      execUnlock, execSearchStart, execSearchCancel, execResults, execSearchRelease, execCollect, execReadForward,
      execAnswer, execPurge, execSetParam, execUnknownCommand, execPost, execRelease, execAbort, execFlagsWrite,
      execTrunkCauseWrite, execEnablesWrite, execPowerDoze, execPowerAwake, execWindowWrite, execStartCondition,
      execRestartCondition, execStopCondition, execReceiveByte, execReplySendStart, execSendByteAck, execArbitrationLost,
      execAnnounce, execRefresh, execWithdraw, execSeek, execFetch, execPostAttr, execTrunkDropAttr, execClaim, execYield,
      execReject, execSearchStep, execHostResetRelease, twice]

/-! ## Aspects of the state -/

/-- The wait of a trunk context goes on at most as it was: none begins, and no deadline is put off. -/
def Calm (x y : TrunkContext) : Prop :=
  (y.state = .awaitingHost → x.state = .awaitingHost)
    ∧ ∀ d, y.deadline = some d → ∃ e, x.deadline = some e ∧ d ≤ e

theorem calm_refl (x : TrunkContext) : Calm x x := ⟨id, fun d hd => ⟨d, hd, Nat.le_refl d⟩⟩

theorem calm_trans {x y z : TrunkContext} (h : Calm x y) (k : Calm y z) : Calm x z := by
  refine ⟨fun waits => h.1 (k.1 waits), fun d hd => ?_⟩
  obtain ⟨e, he, small⟩ := k.2 d hd
  obtain ⟨f, hf, smaller⟩ := h.2 e he
  exact ⟨f, hf, Nat.le_trans small smaller⟩

/-- A context that neither waits nor has a deadline. -/
theorem calm_of_quiet {x y : TrunkContext} (state : y.state ≠ .awaitingHost) (deadline : y.deadline = none) : Calm x y :=
  ⟨fun waits => absurd waits state, fun d hd => by rw [deadline] at hd; cases hd⟩

/-- A context whose wait and deadline are as they were. -/
theorem calm_of_same {x y : TrunkContext} (state : y.state ≠ .awaitingHost) (deadline : y.deadline = x.deadline) :
    Calm x y :=
  ⟨fun waits => absurd waits state, fun d hd => ⟨d, deadline ▸ hd, Nat.le_refl d⟩⟩

/-- Between two states of the trunk contexts no wait begins, and no deadline is put off. -/
def CalmFrom (v w : Vector TrunkContext 6) : Prop := ∀ c : Fin 6, Calm v[c] w[c]

theorem calmFrom_refl (v : Vector TrunkContext 6) : CalmFrom v v := fun _ => calm_refl _

/-- What the invariants read of the state: blocks, and parts of blocks that only few rows change. -/
inductive Aspect where
  | dir | search | time | link | runs | trunk | waits | slots | postOrder | hrst | transaction | wake | host | cause
  | loader | params
  deriving DecidableEq

/-- An aspect is as it was; `waits`: no wait begins, and no deadline is put off; `wake`: WAKE stays
set exactly with a record (R180). -/
def Aspect.kept (s t : State) : Aspect → Prop
  | .dir => t.dir = s.dir
  | .search => t.search = s.search
  | .time => t.time = s.time
  | .link => t.link = s.link
  | .runs => (t.link.tkcLow, t.link.tkdLow) = (s.link.tkcLow, s.link.tkdLow)
  | .trunk => t.trunk = s.trunk
  | .waits => CalmFrom s.trunk.contexts t.trunk.contexts
  | .slots => t.port.slots = s.port.slots
  | .postOrder => t.port.postOrder = s.port.postOrder
  | .hrst => t.port.hrstLow = s.port.hrstLow
  | .transaction => t.port.transaction = s.port.transaction
  | .wake => wakeFlagInv s → wakeFlagInv t
  | .host => t.doze.host = s.doze.host
  | .cause => t.notify.cause = s.notify.cause
  | .loader => t.loader = s.loader
  | .params => t.params = s.params

/-- Every aspect but those named is kept. -/
def keeps (changed : List Aspect) (s t : State) : Prop := ∀ a, a ∉ changed → a.kept s t

variable {A B : List Aspect}

theorem keeps_refl (A : List Aspect) (s : State) : keeps A s s := fun a _ => by
  cases a with
  | waits => exact calmFrom_refl _
  | wake => exact id
  | _ => rfl

theorem kept_trans {a : Aspect} (h : a.kept s t) (k : a.kept t u) : a.kept s u := by
  cases a with
  | waits => exact fun c => calm_trans (h c) (k c)
  | wake => exact k ∘ h
  | _ => exact Eq.trans k h

theorem keeps_trans (h : keeps A s t) (k : keeps A t u) : keeps A s u := fun a ha => kept_trans (h a ha) (k a ha)

theorem keeps_mono (h : keeps A s t) (sub : A ⊆ B) : keeps B s t := fun a ha => h a fun mem => ha (sub mem)

/-- One update after another. -/
theorem keeps_append (h : keeps A s t) (k : keeps B t u) : keeps (A ++ B) s u :=
  keeps_trans (keeps_mono h (by simp)) (keeps_mono k (by simp))

/-! ## The named updates -/

theorem keeps_setDir (d : Directory) : keeps [.dir] s (s.setDir d) := fun a ha => by
  cases a with
  | dir => simp at ha
  | waits => exact calmFrom_refl _
  | wake => exact id
  | _ => rfl

theorem keeps_setTime (x : TimeBase) : keeps [.time] s (s.setTime x) := fun a ha => by
  cases a with
  | time => simp at ha
  | waits => exact calmFrom_refl _
  | wake => exact id
  | _ => rfl

theorem keeps_setLink_runs (x : Link) : keeps [.link, .runs] s (s.setLink x) := fun a ha => by
  cases a with
  | link | runs => simp at ha
  | waits => exact calmFrom_refl _
  | wake => exact id
  | _ => rfl

/-- A link whose low runs are as they were. -/
theorem keeps_setLink (x : Link) (runs : (x.tkcLow, x.tkdLow) = (s.link.tkcLow, s.link.tkdLow)) :
    keeps [.link] s (s.setLink x) := fun a ha => by
  cases a with
  | runs => exact runs
  | _ => exact keeps_setLink_runs x _ (by simp_all)

theorem keeps_setLoader (x : Loader) : keeps [.loader] s (s.setLoader x) := fun a ha => by
  cases a with
  | loader => simp at ha
  | waits => exact calmFrom_refl _
  | wake => exact id
  | _ => rfl

theorem keeps_setParams (x : Params) : keeps [.params] s (s.setParams x) := fun a ha => by
  cases a with
  | params => simp at ha
  | waits => exact calmFrom_refl _
  | wake => exact id
  | _ => rfl

theorem keeps_setArb (x : Arbiter) : keeps [] s (s.setArb x) := fun a _ => by
  cases a with
  | waits => exact calmFrom_refl _
  | wake => exact id
  | _ => rfl

theorem keeps_setSearch (k : Fin 4) (x : SearchContext) : keeps [.search] s (s.setSearch k x) := fun a ha => by
  cases a with
  | search => simp at ha
  | waits => exact calmFrom_refl _
  | wake => exact id
  | _ => rfl

theorem keeps_setCommandSlot (n : Fin 4) (x : CommandSlot) : keeps [.slots] s (s.setCommandSlot n x) := fun a ha => by
  cases a with
  | slots => simp at ha
  | waits => exact calmFrom_refl _
  | wake => exact id
  | _ => rfl

theorem keeps_setEntry (i : SlotNo) (e : Entry) : keeps [.dir] s (s.setEntry i e) := keeps_setDir _

theorem keeps_freeSlot (i : SlotNo) : keeps [.dir] s (freeSlot i s) := keeps_setDir _

/-- The trunk unit replaced: its queues, and contexts of which none begins to wait. -/
theorem keeps_setTrunk (x : TrunkUnit) (calm : CalmFrom s.trunk.contexts x.contexts) :
    keeps [.trunk] s (s.setTrunk x) := fun a ha => by
  cases a with
  | trunk => simp at ha
  | waits => exact calm
  | wake => exact id
  | _ => rfl

theorem keeps_setContext {c : Fin 6} {x : TrunkContext} (calm : Calm (s.context c) x) :
    keeps [.trunk] s (s.setContext c x) :=
  keeps_setTrunk _ fun d => by
    rw [vector_get_set]
    split
    next same => exact same ▸ calm
    next => exact calm_refl _

/-- A context that moves to a state other than AWAITING_HOST. -/
theorem keeps_moveContext (c : Fin 6) {x : TrunkState} (other : x ≠ .awaitingHost) :
    keeps [.trunk] s (s.setContext c { s.context c with state := x }) :=
  keeps_setContext (calm_of_same other rfl)

theorem keeps_clearContext (c : Fin 6) : keeps [.trunk] s (clearContext c s) :=
  keeps_setContext (calm_of_quiet (by simp [TrunkContext.idleWith]) rfl)

theorem keeps_buildReply (c : Fin 6) (r : Reply) : keeps [.trunk] s (buildReply c r s) :=
  keeps_trans (keeps_setContext (calm_of_quiet (by simp) rfl)) (keeps_setTrunk _ (calmFrom_refl _))

/-- A flag other than WAKE is none of the aspects. -/
theorem keeps_setFlag {f : Flag} (other : f ≠ .wake) : keeps [] s (setFlag f s) := fun a _ => by
  cases a with
  | wake =>
    intro law
    have flag : (setFlag f s).flag .wake = s.flag .wake := by simp [flag_setFlag, Ne.symm other]
    exact flag.trans law
  | waits => exact calmFrom_refl _
  | _ => rfl

theorem keeps_setTrunkCause (c : Cause) : keeps [.cause] s (setTrunkCause c s) := fun a ha => by
  cases a with
  | cause => simp at ha
  | wake =>
    intro law
    have flag : (setTrunkCause c s).flag .wake = s.flag .wake := by simp [State.flag, setTrunkCause, Flag.bit, bitMask]
    exact flag.trans law
  | waits => exact calmFrom_refl _
  | _ => rfl

theorem keeps_wakeEvent (r : WakeRecord) : keeps [] s (wakeEvent r s) := fun a ha => by
  by_cases captured : s.doze.wakeEnable = true ∧ s.doze.record = none
  · rw [wakeEvent_of s r captured]
    cases a with
    | wake =>
      intro
      rw [wakeFlagInv, flag_setFlag]
      simp
    | waits => exact calmFrom_refl _
    | _ => rfl
  · rw [wakeEvent_of_not s r captured]
    exact keeps_refl _ s a ha

theorem keeps_addMark (i : SlotNo) (m : Mark) : keeps [.dir] s (addMark i m s) := by
  cases he : s.entryOf i with
  | none =>
    simp only [addMark, he]
    exact keeps_refl _ s
  | some e =>
    by_cases new : e.watch = true ∧ e.marks.has m = false
    · have marked : keeps [.dir] s (setFlag .mark (s.setEntry i { e with marks := e.marks.add m })) :=
        keeps_trans (keeps_setEntry i _) (keeps_mono (keeps_setFlag (by decide)) (by simp))
      rw [addMark_of s i m e he new]
      split
      · exact keeps_trans marked (keeps_mono (keeps_wakeEvent _) (by simp))
      · exact marked
    · rw [addMark_of_not s i m e he new]
      exact keeps_refl _ s

/-- A mark offered under a condition. -/
theorem keeps_addMark_if (offered : Prop) [Decidable offered] (i : SlotNo) (m : Mark) (h : keeps [.dir] s t) :
    keeps [.dir] s (if offered then addMark i m t else t) := by
  split
  · exact keeps_trans h (keeps_addMark i m)
  · exact h

theorem keeps_retireSide (i : SlotNo) (e : Entry) : keeps [.dir] s (retireSide i e s) := by
  by_cases watched : e.watch = true
  · rw [retireSide_of_watched s i e watched]
    exact keeps_trans (keeps_setEntry i _) (keeps_addMark i _)
  · rw [retireSide_of_unwatched s i e (Bool.eq_false_iff.mpr watched)]
    exact keeps_freeSlot i

theorem keeps_allocate {e : Entry} {i : SlotNo} (h : allocate e s = some (t, i)) : keeps [.dir] s t := by
  obtain ⟨-, -, -, -, ht⟩ := allocate_spec s e t i h
  rw [ht]
  exact keeps_setDir _

/-! ## Waits that end (R134, R137, R138) -/

theorem keeps_endWaits (code : ResultCode) (ends : TrunkContext → Bool) : keeps [.trunk] s (endWaits code ends s) := by
  obtain ⟨contexts, -, -⟩ := endWaits_spec s code ends
  rw [endWaits_blocks s code ends]
  refine keeps_setTrunk _ fun c => ?_
  change Calm _ ((endWaits code ends s).context c)
  rw [contexts c]
  split
  · exact calm_of_quiet (by simp [waitEnded]) rfl
  · exact calm_refl _

theorem keeps_answerDeferred : keeps [.trunk] s (answerDeferred s) := keeps_endWaits _ _

end Sys2Proof.Proofs
end

section
/-! PROOFS. The table of what each row can change, row by row: command grants, trunk grants, the link's rows, the rest. -/

namespace Sys2Proof.Proofs

open Sys2Proof.Machine Sys2Proof.Laws

variable {s t u : State} {A : List Aspect}

/-! ## Command grants -/

theorem keeps_takeCommand : keeps [.postOrder] s (takeCommand s) := fun a ha => by
  cases a with
  | postOrder => simp at ha
  | waits => exact calmFrom_refl _
  | wake => exact id
  | _ => rfl

theorem keeps_finishCommand {n : Fin 4} {r : Completion} (h : keeps A s r.state) :
    keeps (.slots :: A) s (finishCommand n r) :=
  keeps_trans (keeps_mono h (by simp))
    (keeps_trans (keeps_mono (keeps_setCommandSlot n _) (by simp)) (keeps_mono (keeps_setFlag (by decide)) (by simp)))

/-- A Command grant changes what performing its command changes, beside the slots and their queue. -/
theorem keeps_commandGrant {accepts : Byte → Bool} {perform : CommandSlot → State → Completion}
    (h : ∀ c u, keeps A u (perform c u).state) :
    keeps (.slots :: .postOrder :: A) s (commandGrant accepts perform s) := by
  unfold commandGrant
  split
  · exact keeps_refl _ s
  · split
    · exact keeps_mono (keeps_finishCommand (keeps_append keeps_takeCommand (h _ _))) (by simp)
    · exact keeps_refl _ s

theorem keeps_answerOnly (code : ResultCode) (outputs : List (Fin 48 × Byte)) :
    keeps A s (answerOnly s code outputs).state := keeps_refl A s

/-- A command without output fields changes what its operation changes where it is not refused. -/
theorem keeps_finishPlain {r : Except ResultCode State} (h : ∀ t, r = .ok t → keeps A s t) :
    keeps A s (finishPlain s r).state := by
  cases r with
  | ok t => exact h t rfl
  | error code => exact keeps_refl A s

theorem keeps_create {tag : List Byte} {length : Nat} {cls reach visibility : Byte} {watch wake : Bool} {lease : Half}
    {i : SlotNo} (h : create tag length cls reach visibility watch wake lease s = .ok (t, i)) : keeps [.dir] s t := by
  unfold create at h
  split at h
  · split at h
    · split at h
      · cases h
      · simp only at h
        split at h
        next allocated => cases h; exact keeps_allocate allocated
        next => cases h
    · cases h
  · cases h

theorem keeps_performCreate (c : CommandSlot) (s : State) : keeps [.dir] s (performCreate c s).state := by
  unfold performCreate
  extract_lets length
  split
  next created => exact keeps_create created
  next => exact keeps_refl _ s

theorem keeps_amend {h : Handle} {cls reach visibility : Byte} {watch wake force : Bool} {lease : Half}
    (ok : amend h cls reach visibility watch wake lease force s = .ok t) : keeps [.dir] s t := by
  unfold amend at ok
  split at ok
  · split at ok
    · cases ok
    · split at ok
      · cases ok
      · split at ok
        · cases ok
        · split at ok
          · cases ok
          · cases ok
            exact keeps_addMark_if _ _ _ (keeps_setEntry _ _)
  · cases ok

theorem keeps_performAmend (c : CommandSlot) (s : State) : keeps [.dir] s (performAmend c s).state :=
  keeps_finishPlain fun _ ok => keeps_amend ok

theorem keeps_writePairs (who : Party) (i : SlotNo) (e : Entry) (pairs : List Attr) :
    keeps [.dir] s (writePairs who i e pairs s) := by
  unfold writePairs
  extract_lets stored
  split
  · exact keeps_setEntry _ _
  · exact keeps_trans (keeps_setEntry _ _) (keeps_addMark _ _)

theorem keeps_writePairs_loc (i : SlotNo) (e : Entry) (pairs : List Attr) :
    keeps [.dir] s (writePairs .loc i e pairs s) := keeps_setEntry _ _

/-- An edit of the pairs writes them, or is refused. -/
theorem putAttr_eq_ok {who : Party} {force : Bool} {h : Handle} {id : Byte} {value : Half}
    (ok : putAttr who force h id value s = .ok t) : ∃ i e, judgeEdit who force h id s = .ok (i, e)
      ∧ ¬(hasPair id e.attrs = false ∧ 6 ≤ e.attrs.length)
      ∧ t = writePairs who i e (putPair { id := id, value := value } e.attrs) s := by
  unfold putAttr at ok
  split at ok
  · cases ok
  next i e judged =>
    split at ok
    · cases ok
    next room => cases ok; exact ⟨i, e, judged, room, rfl⟩

theorem dropAttr_eq_ok {who : Party} {force : Bool} {h : Handle} {id : Byte}
    (ok : dropAttr who force h id s = .ok t) : ∃ i e, judgeEdit who force h id s = .ok (i, e)
      ∧ t = writePairs who i e (dropPair id e.attrs) s := by
  unfold dropAttr at ok
  split at ok
  · cases ok
  next i e judged =>
    split at ok
    · cases ok; exact ⟨i, e, judged, rfl⟩
    · cases ok

theorem keeps_performPutAttr (c : CommandSlot) (s : State) : keeps [.dir] s (performPutAttr c s).state :=
  keeps_finishPlain fun t ok => by
    obtain ⟨i, e, -, -, rfl⟩ := putAttr_eq_ok ok
    exact keeps_writePairs_loc i e _

theorem keeps_performDropAttr (c : CommandSlot) (s : State) : keeps [.dir] s (performDropAttr c s).state :=
  keeps_finishPlain fun t ok => by
    obtain ⟨i, e, -, rfl⟩ := dropAttr_eq_ok ok
    exact keeps_writePairs_loc i e _

theorem retire_eq_ok {h : Handle} {force : Bool} (ok : retire h force s = .ok t) :
    ∃ i e, s.lookup h = some (i, e) ∧ e.life.isSpent = false ∧ t = freeSlot i s := by
  unfold retire at ok
  split at ok
  · cases ok
  next i e found =>
    split at ok
    · cases ok
    next unspent =>
      split at ok
      · cases ok
      · cases ok; exact ⟨i, e, found, Bool.eq_false_iff.mpr unspent, rfl⟩

theorem keeps_performRetire (c : CommandSlot) (s : State) : keeps [.dir] s (performRetire c s).state :=
  keeps_finishPlain fun t ok => by
    obtain ⟨i, e, -, -, rfl⟩ := retire_eq_ok ok
    exact keeps_freeSlot i

theorem keeps_performRead (c : CommandSlot) (s : State) : keeps [] s (performRead c s).state := by
  unfold performRead
  split <;> exact keeps_refl _ s

theorem keeps_performReadAttr (c : CommandSlot) (s : State) : keeps [] s (performReadAttr c s).state := by
  unfold performReadAttr
  split
  · split
    · exact keeps_refl _ s
    · split <;> exact keeps_refl _ s
  · exact keeps_refl _ s

/-- A lock that is set or renewed is written into its entry. -/
theorem claimLock_eq_ok {who : Party} {hold : Byte} {i : SlotNo} {e : Entry} {g : Nat}
    (ok : claimLock who hold i e s = .ok (t, g)) :
    t = s.setEntry i { e with lock := some { holder := who, lapse := grantedHold s.params hold.toNat } } := by
  unfold claimLock at ok
  extract_lets h at ok
  split at ok
  · split at ok
    · exact (congrArg Prod.fst (Except.ok.inj ok)).symm
    · cases ok
  · exact (congrArg Prod.fst (Except.ok.inj ok)).symm

theorem keeps_performLock (c : CommandSlot) (s : State) : keeps [.dir] s (performLock c s).state := by
  unfold performLock
  split
  · exact keeps_refl _ s
  · split
    next ok =>
      obtain rfl := claimLock_eq_ok ok
      exact keeps_setEntry _ _
    · exact keeps_refl _ s

theorem keeps_performUnlock (c : CommandSlot) (s : State) : keeps [.dir] s (performUnlock c s).state := by
  unfold performUnlock
  split
  · exact keeps_refl _ s
  · split
    · exact keeps_refl _ s
    · split
      next code released _ =>
        cases released with
        | true => exact keeps_setEntry _ _
        | false => exact keeps_refl _ s

theorem keeps_performSearchStart (c : CommandSlot) (s : State) : keeps [.search] s (performSearchStart c s).state := by
  unfold performSearchStart
  extract_lets length limit
  split
  · split
    · exact keeps_setSearch _ _
    · exact keeps_refl _ s
  · exact keeps_refl _ s

theorem keeps_performSearchCancel (c : CommandSlot) (s : State) : keeps [.search] s (performSearchCancel c s).state := by
  unfold performSearchCancel
  split
  · exact keeps_refl _ s
  · split
    · exact keeps_refl _ s
    · split
      · exact keeps_refl _ s
      · exact keeps_setSearch _ _
    · split <;> exact keeps_refl _ s

theorem keeps_performResults (c : CommandSlot) (s : State) : keeps [] s (performResults c s).state := by
  unfold performResults
  split
  · exact keeps_refl _ s
  · split <;> exact keeps_refl _ s

theorem keeps_performSearchRelease (c : CommandSlot) (s : State) : keeps [.search] s (performSearchRelease c s).state := by
  unfold performSearchRelease
  split
  · exact keeps_refl _ s
  · split
    · exact keeps_refl _ s
    · split <;> exact keeps_refl _ s
    · split
      · exact keeps_refl _ s
      · exact keeps_setSearch _ _

theorem keeps_collectEntry (i : SlotNo) (e : Entry) : keeps [.dir] s (collectEntry i e s) := by
  have stored : keeps [.dir] s (emptied i e s) := keeps_trans (keeps_setEntry i _) (keeps_setDir _)
  by_cases spent : e.life = .spent
  · rw [collectEntry_of_spent spent]
    exact keeps_trans stored (keeps_freeSlot i)
  · rw [collectEntry_of_not_spent spent]
    exact stored

theorem keeps_performCollect (c : CommandSlot) (s : State) : keeps [.dir] s (performCollect c s).state := by
  unfold performCollect
  split
  · exact keeps_collectEntry _ _
  · exact keeps_refl _ s

theorem keeps_performReadForward (c : CommandSlot) (s : State) : keeps [] s (performReadForward c s).state := by
  unfold performReadForward
  split
  · exact keeps_refl _ s
  · extract_lets x
    split <;> exact keeps_refl _ s

theorem keeps_performAnswer (c : CommandSlot) (s : State) : keeps [.trunk] s (performAnswer c s).state := by
  unfold performAnswer
  split
  · exact keeps_refl _ s
  · extract_lets x items
    split
    · exact keeps_buildReply _ _
    · exact keeps_refl _ s

/-- What holds of every state that a fold passes is kept by the fold. -/
theorem keeps_foldl {α : Type} {f : State → α → State} (h : ∀ u x, keeps A u (f u x)) (l : List α) (s : State) :
    keeps A s (l.foldl f s) := by
  induction l generalizing s with
  | nil => exact keeps_refl A s
  | cons x rest ih => exact keeps_trans (h s x) (ih _)

theorem keeps_purgeAll (selected : Origin → Bool) (s : State) : keeps [.dir] s (purgeAll selected s).1 := by
  have fold : ∀ (l : List SlotNo) (r : State × Nat), keeps [.dir] r.1 (l.foldl (purgeSlot selected) r).1 := by
    intro l
    induction l with
    | nil => exact fun r => keeps_refl _ r.1
    | cons i rest ih =>
      intro r
      refine keeps_trans ?_ (ih (purgeSlot selected r i))
      unfold purgeSlot
      split
      · split
        · exact keeps_freeSlot i
        · exact keeps_refl _ r.1
      · exact keeps_refl _ r.1
  exact fold allSlots (s, 0)

theorem keeps_performPurge (c : CommandSlot) (s : State) : keeps [.dir] s (performPurge c s).state := by
  unfold performPurge
  split
  · exact keeps_refl _ s
  next selected _ =>
    extract_lets r
    exact keeps_trans (keeps_purgeAll selected s) (keeps_answerOnly .ok _)

theorem keeps_performSetParam (c : CommandSlot) (s : State) : keeps [.params] s (performSetParam c s).state := by
  unfold performSetParam
  extract_lets id
  split
  · exact keeps_setParams _
  · exact keeps_refl _ s

/-! ## Trunk grants -/

theorem keeps_takeRequest : keeps [.trunk] s (takeRequest s) := fun a ha => by
  cases a with
  | trunk => simp at ha
  | waits => exact calmFrom_refl _
  | wake => exact id
  | _ => rfl

/-- A Trunk grant changes what serving its request changes, beside the trunk unit. -/
theorem keeps_trunkGrant {select : Option Request → Option (Fin 6 → State → State)}
    (h : ∀ r serve c u, select r = some serve → keeps (.trunk :: A) u (serve c u)) :
    keeps (.trunk :: A) s (trunkGrant select s) := by
  unfold trunkGrant
  split
  · exact keeps_refl _ s
  · split
    · exact keeps_refl _ s
    next selected => exact keeps_trans (keeps_mono keeps_takeRequest (by simp)) (h _ _ _ _ selected)

/-- Serving a request of this kind changes what `A` names and then builds a reply. -/
def Answers (A : List Aspect) (select : Option Request → Option (Fin 6 → State → State)) : Prop :=
  ∀ r serve, select r = some serve → ∀ c u, ∃ v reply, keeps A u v ∧ serve c u = buildReply c reply v

theorem keeps_reply {c : Fin 6} {r : Reply} (h : keeps A s t) : keeps (.trunk :: A) s (buildReply c r t) :=
  keeps_trans (keeps_mono h (by simp)) (keeps_mono (keeps_buildReply c r) (by simp))

theorem keeps_trunkGrant_of_answers {select : Option Request → Option (Fin 6 → State → State)} (h : Answers A select) :
    keeps (.trunk :: A) s (trunkGrant select s) :=
  keeps_trunkGrant fun r serve c u selected => by
    obtain ⟨v, reply, kept, served⟩ := h r serve selected c u
    rw [served]
    exact keeps_reply kept

theorem answers_servePlain {kind : Byte} {c : Fin 6} {r : Except ResultCode State} (h : ∀ t, r = .ok t → keeps A s t) :
    ∃ v reply, keeps A s v ∧ servePlain kind c s r = buildReply c reply v := by
  cases r with
  | ok t => exact ⟨t, _, h t rfl, rfl⟩
  | error code => exact ⟨s, _, keeps_refl A s, rfl⟩

/-- What ANNOUNCE places, it places by one of the three operations on entries. -/
theorem announce_eq_ok {n : Byte} {tag : List Byte} {cls visibility : Byte} {lease : Half} {i : SlotNo} {g : Nat}
    (ok : announce n tag cls visibility lease s = .ok (t, i, g)) :
    ∃ v, tagInRange tag = true ∧ g = grantedLease s.params lease.toNat
      ∧ ((s.findTag tag = none ∧ announceNew n tag cls v g s = .ok (t, i))
        ∨ ∃ e, (s.findTag tag = some (i, e) ∧ e.origin = .trunk n ∧ t = reannounce i e n cls v g s)
          ∨ ∃ j, s.findTag tag = some (j, e) ∧ e.life.isStale = true ∧ takeover j e n tag cls v g s = .ok (t, i)) := by
  unfold announce at ok
  split at ok
  next range =>
    split at ok
    · cases ok
    · cases ok
    next v _ _ =>
      simp only at ok
      split at ok
      next placed =>
        cases ok
        refine ⟨v, range.1, rfl, ?_⟩
        split at placed
        next free => exact .inl ⟨free, placed⟩
        next j e found =>
          split at placed
          · cases placed
          next m origin =>
            split at placed
            next same =>
              cases placed
              exact .inr ⟨e, .inl ⟨found, same ▸ origin, rfl⟩⟩
            next =>
              split at placed
              next stale => exact .inr ⟨e, .inr ⟨j, found, stale, placed⟩⟩
              next => cases placed
      next => cases ok
  next => cases ok

theorem announceNew_eq_ok {n : Byte} {tag : List Byte} {cls : Byte} {v : Visibility} {g : Nat} {i : SlotNo}
    (ok : announceNew n tag cls v g s = .ok (t, i)) :
    ∃ u, allocate (announcedEntry n tag cls v g s.params) s = some (u, i) ∧ t = addMark i .created u := by
  unfold announceNew at ok
  split at ok
  next u j allocated => cases ok; exact ⟨u, allocated, rfl⟩
  next => cases ok

theorem takeover_eq_ok {n : Byte} {tag : List Byte} {cls : Byte} {v : Visibility} {g : Nat} {i j : SlotNo} {e : Entry}
    (ok : takeover j e n tag cls v g s = .ok (t, i)) :
    e.lock = none ∧ announceNew n tag cls v g (retireSide j e s) = .ok (t, i) := by
  unfold takeover at ok
  split at ok
  · cases ok
  next unlocked =>
    split at ok
    · cases ok
    · exact ⟨by simpa using unlocked, ok⟩

theorem keeps_announceNew {n : Byte} {tag : List Byte} {cls : Byte} {v : Visibility} {g : Nat} {i : SlotNo}
    (ok : announceNew n tag cls v g s = .ok (t, i)) : keeps [.dir] s t := by
  obtain ⟨u, allocated, rfl⟩ := announceNew_eq_ok ok
  exact keeps_trans (keeps_allocate allocated) (keeps_addMark _ _)

theorem keeps_reannounce (i : SlotNo) (e : Entry) (n cls : Byte) (v : Visibility) (g : Nat) :
    keeps [.dir] s (reannounce i e n cls v g s) :=
  keeps_addMark_if _ _ _ (keeps_addMark_if _ _ _ (keeps_setEntry _ _))

theorem keeps_announce {n : Byte} {tag : List Byte} {cls visibility : Byte} {lease : Half} {i : SlotNo} {g : Nat}
    (ok : announce n tag cls visibility lease s = .ok (t, i, g)) : keeps [.dir] s t := by
  obtain ⟨v, -, -, ⟨-, placed⟩ | ⟨e, ⟨-, -, rfl⟩ | ⟨j, -, -, taken⟩⟩⟩ := announce_eq_ok ok
  · exact keeps_announceNew placed
  · exact keeps_reannounce _ _ _ _ _ _
  · obtain ⟨-, placed⟩ := takeover_eq_ok taken
    exact keeps_trans (keeps_retireSide _ _) (keeps_announceNew placed)

theorem answers_selectAnnounce : Answers [.dir] selectAnnounce := by
  intro r serve selected c u
  unfold selectAnnounce at selected
  split at selected
  · cases selected
    unfold serveAnnounce
    split
    next ok => exact ⟨_, _, keeps_announce ok, rfl⟩
    next => exact ⟨_, _, keeps_refl _ u, rfl⟩
  · cases selected

theorem refresh_eq_ok {n : Byte} {h : Handle} {g : Nat} (ok : refresh n h s = .ok (t, g)) :
    ∃ i e, s.lookup h = some (i, e) ∧ e.life.isSpent = false
      ∧ t = if e.life.isStale then addMark i .revived (s.setEntry i e.restarted) else s.setEntry i e.restarted := by
  unfold refresh at ok
  split at ok
  · cases ok
  next i e found =>
    split at ok
    · cases ok
    next unspent =>
      split at ok
      · cases ok
      · split at ok
        · cases ok
        · cases ok; exact ⟨i, e, found, Bool.eq_false_iff.mpr unspent, rfl⟩

theorem answers_selectRefresh : Answers [.dir] selectRefresh := by
  intro r serve selected c u
  unfold selectRefresh at selected
  split at selected
  · cases selected
    unfold serveRefresh
    split
    next ok =>
      obtain ⟨i, e, -, -, rfl⟩ := refresh_eq_ok ok
      exact ⟨_, _, keeps_addMark_if _ _ _ (keeps_setEntry _ _), rfl⟩
    next => exact ⟨_, _, keeps_refl _ u, rfl⟩
  · cases selected

theorem withdraw_eq_ok {n : Byte} {h : Handle} (ok : withdraw n h s = .ok t) :
    ∃ i e, s.lookup h = some (i, e) ∧ e.life.isSpent = false ∧ t = retireSide i e s := by
  unfold withdraw at ok
  split at ok
  · cases ok
  next i e found =>
    split at ok
    · cases ok
    · split at ok
      · cases ok
      · split at ok
        · cases ok
        next unspent =>
          split at ok
          · cases ok
          · cases ok; exact ⟨i, e, found, Bool.eq_false_iff.mpr unspent, rfl⟩

theorem answers_selectWithdraw : Answers [.dir] selectWithdraw := by
  intro r serve selected c u
  unfold selectWithdraw at selected
  split at selected
  · cases selected
    exact answers_servePlain fun t ok => by
      obtain ⟨i, e, -, -, rfl⟩ := withdraw_eq_ok ok
      exact keeps_retireSide i e
  · cases selected

theorem keeps_claimSearch (c : Fin 6) (k : Fin 4) (r : Search) : keeps [.trunk, .search] s (claimSearch c k r s) := by
  have calm : Calm ((s.setSearch k (.running r)).context c) { s.context c with state := .serving, linked := some k } :=
    calm_of_same (by simp) rfl
  exact keeps_trans (keeps_mono (keeps_setSearch k _) (by simp)) (keeps_mono (keeps_setContext calm) (by simp))

theorem keeps_selectSeek (r : Option Request) (serve : Fin 6 → State → State) (c : Fin 6) (u : State)
    (selected : selectSeek r = some serve) : keeps [.trunk, .search] u (serve c u) := by
  unfold selectSeek at selected
  split at selected
  · cases selected
    unfold serveSeek
    split
    · split
      · exact keeps_claimSearch _ _ _
      · exact keeps_reply (keeps_refl _ u)
    · exact keeps_reply (keeps_refl _ u)
  · cases selected

theorem answers_selectFetch : Answers [] selectFetch := by
  intro r serve selected c u
  unfold selectFetch at selected
  split at selected
  · cases selected
    exact ⟨u, _, keeps_refl _ u, rfl⟩
  · cases selected

theorem answers_selectPostAttr : Answers [.dir] selectPostAttr := by
  intro r serve selected c u
  unfold selectPostAttr at selected
  split at selected
  · cases selected
    exact answers_servePlain fun t ok => by
      obtain ⟨i, e, -, -, rfl⟩ := putAttr_eq_ok ok
      exact keeps_writePairs _ i e _
  · cases selected

theorem answers_selectDropAttr : Answers [.dir] selectDropAttr := by
  intro r serve selected c u
  unfold selectDropAttr at selected
  split at selected
  · cases selected
    exact answers_servePlain fun t ok => by
      obtain ⟨i, e, -, rfl⟩ := dropAttr_eq_ok ok
      exact keeps_writePairs _ i e _
  · cases selected

theorem answers_selectClaim : Answers [.dir] selectClaim := by
  intro r serve selected c u
  unfold selectClaim at selected
  split at selected
  · cases selected
    unfold serveClaim
    split
    · exact ⟨_, _, keeps_refl _ u, rfl⟩
    · split
      next ok =>
        obtain rfl := claimLock_eq_ok ok
        exact ⟨_, _, keeps_setEntry _ _, rfl⟩
      next => exact ⟨_, _, keeps_refl _ u, rfl⟩
  · cases selected

theorem yield_eq_ok {n : Byte} {h : Handle} (ok : yield n h s = .ok t) :
    ∃ i e, s.lookup h = some (i, e) ∧ t = s.setEntry i { e with lock := none } := by
  unfold yield at ok
  split at ok
  · cases ok
  next i e found =>
    split at ok
    · cases ok
    · split at ok
      · cases ok
      · split at ok
        · cases ok
        · split at ok
          · cases ok; exact ⟨i, e, found, rfl⟩
          · cases ok

theorem answers_selectYield : Answers [.dir] selectYield := by
  intro r serve selected c u
  unfold selectYield at selected
  split at selected
  · cases selected
    exact answers_servePlain fun t ok => by
      obtain ⟨i, e, -, rfl⟩ := yield_eq_ok ok
      exact keeps_setEntry i _
  · cases selected

theorem answers_selectReject : Answers [] selectReject := by
  intro r serve selected c u
  unfold selectReject at selected
  split at selected
  · cases selected
    exact ⟨u, _, keeps_refl _ u, rfl⟩
  · cases selected

end Sys2Proof.Proofs
end

section
/-! PROOFS. The rest of the table of what each row can change, the table itself, and what follows from it: what every row
keeps, every step keeps. -/

namespace Sys2Proof.Proofs

open Sys2Proof.Machine Sys2Proof.Laws

variable {s t u : State} {A : List Aspect}

/-! ## The link's rows -/

/-- What changes the link and the trunk unit alone. -/
def linkAspects : List Aspect := [.link, .trunk]

theorem keeps_beginFrame : keeps [.link] s (beginFrame s) := keeps_setLink _ rfl

theorem keeps_endFrame : keeps [.link] s (endFrame s) := keeps_setLink _ rfl

theorem keeps_discardFrame : keeps [.trunk] s (discardFrame s) := by
  unfold discardFrame
  split
  · exact keeps_clearContext _
  all_goals exact keeps_refl _ s

theorem keeps_dropReply (c : Fin 6) : keeps linkAspects s (dropReply c s) :=
  keeps_trans (keeps_mono (keeps_clearContext c) (by simp [linkAspects]))
    (keeps_mono (keeps_setLink _ rfl) (by simp [linkAspects]))

theorem keeps_dropSending : keeps linkAspects s (dropSending s) := by
  unfold dropSending
  split
  · exact keeps_refl _ s
  · exact keeps_dropReply _

theorem keeps_completeFrame (c : Fin 6) : keeps [.trunk] s (completeFrame c s) :=
  keeps_trans (keeps_moveContext c (x := .received) (by decide)) (keeps_setTrunk _ (calmFrom_refl _))

theorem keeps_startEffect : keeps [.link] s (startEffect s) := by
  unfold startEffect
  split
  · exact keeps_beginFrame
  · exact keeps_refl _ s

theorem keeps_restartEffect : keeps linkAspects s (restartEffect s) := by
  unfold restartEffect
  split
  · exact keeps_trans (keeps_trans keeps_dropSending (keeps_mono keeps_discardFrame (by simp [linkAspects])))
      (keeps_mono keeps_beginFrame (by simp [linkAspects]))
  · exact keeps_refl _ s

theorem keeps_stopEffect : keeps linkAspects s (stopEffect s) := by
  have ended (u : State) : keeps linkAspects u (endFrame u) := keeps_mono keeps_endFrame (by simp [linkAspects])
  have discarded (u : State) : keeps linkAspects u (discardFrame u) :=
    keeps_mono keeps_discardFrame (by simp [linkAspects])
  unfold stopEffect
  split
  · extract_lets dropped
    refine keeps_trans (t := dropped) keeps_dropSending ?_
    split
    · exact keeps_trans (keeps_mono (keeps_completeFrame _) (by simp [linkAspects])) (ended _)
    all_goals exact keeps_trans (discarded _) (ended _)
  · exact keeps_refl _ s

theorem keeps_acceptNext (c : Fin 6) (part : FramePart) (v : Byte) : keeps [.link] s (acceptNext c part v s) :=
  keeps_setLink _ rfl

theorem keeps_ignoreRest : keeps [.link] s (ignoreRest s) := keeps_setLink _ rfl

theorem keeps_judgeDestination (v : Byte) : keeps linkAspects s (judgeDestination v s) := by
  unfold judgeDestination
  split
  next c _ =>
    have claimed : keeps [.trunk] s (s.setContext c (claimedContext (s.context c))) :=
      keeps_setContext (calm_of_quiet (by simp [claimedContext]) rfl)
    exact keeps_trans (keeps_mono claimed (by simp [linkAspects])) (keeps_mono (keeps_setLink _ rfl) (by simp [linkAspects]))
  · exact keeps_mono keeps_ignoreRest (by simp [linkAspects])

/-- A byte that is acknowledged is stored; it changes neither the state of the context, nor its ticket, its link to a
search or its deadline. -/
theorem acceptByte_keeps {crc v : Byte} {x y : TrunkContext} {part next : FramePart}
    (accepted : acceptByte crc v x part = some (next, y)) :
    y.state = x.state ∧ y.ticket = x.ticket ∧ y.linked = x.linked ∧ y.deadline = x.deadline := by
  unfold acceptByte at accepted
  split at accepted
  · split at accepted
    · cases accepted; exact ⟨rfl, rfl, rfl, rfl⟩
    · cases accepted
  · cases accepted; exact ⟨rfl, rfl, rfl, rfl⟩
  · cases accepted; exact ⟨rfl, rfl, rfl, rfl⟩
  · split at accepted
    · cases accepted; exact ⟨rfl, rfl, rfl, rfl⟩
    · cases accepted
  · cases accepted; exact ⟨rfl, rfl, rfl, rfl⟩
  · split at accepted
    · cases accepted; exact ⟨rfl, rfl, rfl, rfl⟩
    · cases accepted
  · cases accepted

theorem keeps_judgeByte (c : Fin 6) (part : FramePart) (v : Byte) : keeps linkAspects s (judgeByte c part v s) := by
  unfold judgeByte
  split
  next next x accepted =>
    obtain ⟨state, -, -, deadline⟩ := acceptByte_keeps accepted
    have stored : keeps [.trunk] s (s.setContext c x) :=
      keeps_setContext ⟨fun waits => state ▸ waits, fun d hd => ⟨d, deadline ▸ hd, Nat.le_refl d⟩⟩
    exact keeps_trans (keeps_mono stored (by simp [linkAspects])) (keeps_mono (keeps_setLink _ rfl) (by simp [linkAspects]))
  · exact keeps_trans (keeps_mono keeps_discardFrame (by simp [linkAspects]))
      (keeps_mono keeps_ignoreRest (by simp [linkAspects]))

theorem keeps_receiveEffect (v : Byte) : keeps linkAspects s (receiveEffect v s) := by
  unfold receiveEffect
  split
  · split
    · exact keeps_judgeDestination v
    · exact keeps_judgeByte _ _ v
    all_goals exact keeps_mono (keeps_setLink _ rfl) (by simp [linkAspects])
  · exact keeps_refl _ s

/-- Context `c` moves to another state, and the ready queue to another list. -/
def moveContext (c : Fin 6) (x : TrunkState) (ready : List (Fin 6)) (s : State) : State :=
  let moved := s.setContext c { s.context c with state := x }
  moved.setTrunk { moved.trunk with ready := ready }

theorem keeps_moved (c : Fin 6) {x : TrunkState} (other : x ≠ .awaitingHost) (ready : List (Fin 6)) :
    keeps [.trunk] s (moveContext c x ready s) :=
  keeps_trans (keeps_moveContext c other) (keeps_setTrunk _ (calmFrom_refl _))

/-- What REPLY_SEND_START does where the link is free: the head of the ready queue becomes SENDING (R118). -/
def startSending (c : Fin 6) (rest : List (Fin 6)) (s : State) : State :=
  let begun := beginFrame (moveContext c .sending rest s)
  begun.setLink { begun.link with
    latchedSpeed := some begun.params.linkSpeed, transmitter := some { context := c, sent := 0 } }

theorem sendStart_eq (s : State) : sendStart s = s ∨ ∃ c rest, s.trunk.ready = c :: rest ∧ s.resetLow = false
    ∧ s.link.state = .idle ∧ s.link.transmitter = none ∧ sendStart s = startSending c rest s := by
  unfold sendStart
  split
  · exact .inl rfl
  next c rest ready =>
    split
    next free => exact .inr ⟨c, rest, ready, free.1, free.2.1, free.2.2, rfl⟩
    · exact .inl rfl

theorem keeps_startSending (c : Fin 6) (rest : List (Fin 6)) : keeps linkAspects s (startSending c rest s) := by
  have begun : keeps [.link] (moveContext c .sending rest s) (startSending c rest s) :=
    keeps_trans (t := beginFrame (moveContext c .sending rest s)) keeps_beginFrame (keeps_setLink _ rfl)
  exact keeps_trans (keeps_mono (keeps_moved c (by decide) rest) (by simp [linkAspects]))
    (keeps_mono begun (by simp [linkAspects]))

theorem keeps_sendStart : keeps linkAspects s (sendStart s) := by
  obtain same | ⟨c, rest, -, -, -, -, started⟩ := sendStart_eq s
  · rw [same]
    exact keeps_refl _ s
  · rw [started]
    exact keeps_startSending c rest

theorem keeps_endSending (c : Fin 6) : keeps linkAspects s (endSending c s) :=
  keeps_trans (keeps_dropReply c) (keeps_mono keeps_endFrame (by simp [linkAspects]))

theorem keeps_ackEffect (acknowledged : Bool) : keeps (.cause :: linkAspects) s (ackEffect acknowledged s) := by
  unfold ackEffect
  split
  · exact keeps_refl _ s
  · split
    · exact keeps_trans (keeps_mono (keeps_endSending _) (by simp)) (keeps_mono (keeps_setTrunkCause _) (by simp))
    · split
      · exact keeps_mono (keeps_endSending _) (by simp)
      · exact keeps_mono (keeps_setLink _ rfl) (by simp [linkAspects])

/-- What ARBITRATION_LOST does in a bit sent as 1: the reply goes back to the head of the ready queue (R120). -/
def putBack (c : Fin 6) (s : State) : State :=
  let ready := moveContext c .replyReady (c :: s.trunk.ready) s
  ready.setLink { ready.link with transmitter := none }

theorem lostEffect_eq (bit : Fin 8) (s : State) :
    lostEffect bit s = s ∨ ∃ x, s.link.transmitter = some x ∧ lostEffect bit s = putBack x.context s := by
  unfold lostEffect
  split
  · exact .inl rfl
  next x sending =>
    split
    · exact .inr ⟨x, sending, rfl⟩
    · exact .inl rfl

theorem keeps_putBack (c : Fin 6) : keeps linkAspects s (putBack c s) := by
  have stopped : keeps [.link] (moveContext c .replyReady (c :: s.trunk.ready) s) (putBack c s) := keeps_setLink _ rfl
  exact keeps_trans (keeps_mono (keeps_moved c (by decide) _) (by simp [linkAspects]))
    (keeps_mono stopped (by simp [linkAspects]))

theorem keeps_lostEffect (bit : Fin 8) : keeps linkAspects s (lostEffect bit s) := by
  obtain same | ⟨x, -, lost⟩ := lostEffect_eq bit s
  · rw [same]
    exact keeps_refl _ s
  · rw [lost]
    exact keeps_putBack _

/-! ## The searches and the sweep -/

theorem keeps_seekWake (items : List Item) (requester ticket : Byte) :
    keeps [] s (seekWake items requester ticket s) := by
  unfold seekWake
  split
  · exact keeps_wakeEvent _
  · exact keeps_refl _ s

/-- The aspects that a SEEK end changes. -/
def seekAspects : List Aspect := [.trunk, .waits]

/-- A context of which the trunk unit's aspects say nothing more. -/
theorem keeps_setContext_waits (c : Fin 6) (x : TrunkContext) : keeps seekAspects s (s.setContext c x) := fun a ha => by
  cases a with
  | trunk | waits => simp [seekAspects] at ha
  | wake => exact id
  | _ => rfl

theorem keeps_seekEnd (c : Fin 6) (results : List Handle) (cursor : Nat) :
    keeps seekAspects s (seekEnd c results cursor s) := by
  have replied (r : Reply) (u : State) : keeps seekAspects u (buildReply c r u) :=
    keeps_mono (keeps_buildReply c r) (by simp [seekAspects])
  unfold seekEnd
  extract_lets x items stored
  refine keeps_trans (t := stored) (keeps_setContext_waits _ _) ?_
  split
  · split
    · exact keeps_trans (keeps_setContext_waits _ _) (keeps_mono (keeps_setFlag (by decide)) (by simp))
    · exact keeps_trans (replied _ _) (keeps_mono (keeps_seekWake _ _ _) (by simp [seekAspects]))
  · exact replied _ _

theorem keeps_endSearch (k : Fin 4) (r : Search) (e : Option EndCode) :
    keeps (.search :: seekAspects) s (endSearch k r e s) := by
  have stored (x : SearchContext) : keeps (.search :: seekAspects) s (s.setSearch k x) :=
    keeps_mono (keeps_setSearch k x) (by simp)
  unfold endSearch
  split
  · exact stored _
  · split
    · exact keeps_trans (stored _) (keeps_mono (keeps_setFlag (by decide)) (by simp))
    · exact keeps_trans (stored _) (keeps_mono (keeps_seekEnd _ _ _) (by simp))

/-- A Search grant serves a RUNNING context, or does not occur (log 2). -/
theorem searchGrant_eq (s : State) : searchGrant s = s ∨ ∃ k r, s.searchContext k = .running r
    ∧ searchGrant s = endSearch k (walk s (stepSlots r.burst) r).1 (walk s (stepSlots r.burst) r).2 (takeSearch k s) := by
  unfold searchGrant
  split
  · split
    · exact .inl rfl
    next k _ =>
      split
      next r running => exact .inr ⟨k, r, running, rfl⟩
      · exact .inl rfl
      · exact .inl rfl
  · exact .inl rfl

theorem keeps_searchGrant : keeps (.search :: seekAspects) s (searchGrant s) := by
  obtain same | ⟨k, r, -, served⟩ := searchGrant_eq s
  · rw [same]
    exact keeps_refl _ s
  · rw [served]
    exact keeps_trans (keeps_mono (keeps_setArb _) (by simp)) (keeps_endSearch _ _ _)

theorem keeps_sweepLock (charge : Nat) (i : SlotNo) (e : Entry) : keeps [.dir] s (sweepLock charge i e s) := by
  unfold sweepLock
  split
  · exact keeps_refl _ s
  · split
    · exact keeps_trans (keeps_setEntry _ _) (keeps_addMark _ _)
    · exact keeps_setEntry _ _

theorem keeps_sweepLease (charge grace : Nat) (i : SlotNo) (e : Entry) :
    keeps [.dir] s (sweepLease charge grace i e s) := by
  unfold sweepLease
  split
  · split
    · exact keeps_trans (keeps_setEntry _ _) (keeps_addMark _ _)
    · exact keeps_setEntry _ _
  all_goals exact keeps_refl _ s

theorem keeps_sweepGrace (charge : Nat) (i : SlotNo) (e : Entry) : keeps [.dir] s (sweepGrace charge i e s) := by
  unfold sweepGrace
  split
  · split
    · exact keeps_setEntry _ _
    · exact keeps_retireSide _ _
  all_goals exact keeps_refl _ s

theorem keeps_sweepSlot (charge grace : Nat) (s : State) (i : SlotNo) :
    keeps [.dir] s (sweepSlot charge grace s i) := by
  unfold sweepSlot
  split
  · exact keeps_refl _ s
  · split
    · exact keeps_refl _ s
    · extract_lets locked
      refine keeps_trans (t := locked) (keeps_sweepLock _ _ _) ?_
      split
      · exact keeps_refl _ _
      · split
        · exact keeps_sweepLease _ _ _ _
        · exact keeps_sweepGrace _ _ _

theorem keeps_sweepGrant : keeps [.time, .dir] s (sweepGrant s) := by
  unfold sweepGrant
  split
  · extract_lets granted
    have taken : keeps [.time] s (granted.setTime { s.time with owed := 0 }) :=
      keeps_append (keeps_setArb _) (keeps_setTime _)
    exact keeps_trans (keeps_mono taken (by simp))
      (keeps_mono (keeps_foldl (keeps_sweepSlot s.time.owed s.params.grace) allSlots _) (by simp))
  · exact keeps_refl _ s

/-! ## The loader, the resets and the window writes -/

theorem keeps_placePreset {p : Preset} (placed : placePreset p s = some t) : keeps [.dir] s t := by
  unfold placePreset at placed
  split at placed
  · cases placed
  · split at placed
    · cases placed
    · obtain ⟨⟨u, i⟩, allocated, rfl⟩ := Option.map_eq_some_iff.mp placed
      exact keeps_allocate allocated

theorem keeps_presetCreate : keeps [.dir, .loader] (settle s) (after .presetCreate s) := by
  simp only [after, exec, execPresetCreate]
  split
  · split
    next placed => exact keeps_append (keeps_placePreset placed) (keeps_setLoader _)
    · exact keeps_mono (keeps_setLoader _) (by simp)
  all_goals exact keeps_refl _ _

theorem keeps_loadEnd : keeps [.params, .loader] (settle s) (after .loadEnd s) := by
  simp only [after, exec, execLoadEnd]
  split
  · exact keeps_trans (keeps_append (keeps_setParams _) (keeps_setLoader _))
      (keeps_mono (keeps_setFlag (by decide)) (by simp))
  all_goals exact keeps_refl _ _

theorem keeps_configRead (a b c d : Bool) (bytes : List Byte) :
    keeps [.loader] (settle s) (after (.configRead a b c d bytes) s) := by
  change keeps _ _ (if _ then _ else _)
  split
  · exact keeps_setLoader _
  · exact keeps_refl _ _

theorem keeps_loadStart : keeps [.loader] (settle s) (after .loadStart s) := by
  change keeps _ _ (if _ then _ else _)
  split
  · exact keeps_setLoader _
  · exact keeps_refl _ _

/-- The aspects that a host reset changes. -/
def hostAspects : List Aspect :=
  [.dir, .search, .trunk, .slots, .postOrder, .hrst, .transaction, .host, .cause]

/-- What a host reset clears once the waits have ended (R185). -/
def hostCleared (s : State) : State :=
  { s with
    dir := { s.dir with slots := mapAll dropLocalLock s.dir.slots, collectCursor := 255 }
    search := mapAll idleLocalSearch s.search
    port := { HostPort.reset with hrstLow := true }
    notify := Notify.reset
    doze := Doze.reset }

theorem hostResetEffect_eq (s : State) : hostResetEffect s = hostCleared (answerDeferred s) := rfl

theorem keeps_hostCleared : keeps hostAspects s (hostCleared s) := fun a ha => by
  cases a with
  | dir | search | trunk | slots | postOrder | hrst | transaction | host | cause =>
    simp [hostAspects] at ha
  | waits => exact calmFrom_refl _
  | wake =>
    have cleared : (hostCleared s).flag .wake = false := by simp [State.flag, hostCleared, Notify.reset]
    exact fun _ => cleared
  | time | link | runs | loader | params => rfl

theorem keeps_hostResetEffect : keeps hostAspects s (hostResetEffect s) := by
  rw [hostResetEffect_eq]
  exact keeps_trans (keeps_mono keeps_answerDeferred (by simp [hostAspects])) keeps_hostCleared

theorem keeps_hostReset : keeps hostAspects (settle s) (after .hostReset s) := by
  change keeps _ _ (if _ then _ else _)
  split
  · exact keeps_refl _ _
  · exact keeps_hostResetEffect

theorem keeps_hostResetRelease : keeps [.hrst] (settle s) (after .hostResetRelease s) := by
  change keeps [.hrst] (settle s) ((settle s).setPort { (settle s).port with hrstLow := false })
  generalize settle s = u
  intro a ha
  cases a with
  | hrst => simp at ha
  | waits => exact calmFrom_refl _
  | wake => exact id
  | _ => rfl

theorem keeps_portWrite {write : State → State} (h : ∀ u, keeps A u (write u)) : keeps A s (portWrite write s) := by
  unfold portWrite
  split
  · exact h s
  · exact keeps_refl A s

theorem keeps_postSlot (n : Fin 4) (s : State) : keeps [.slots, .postOrder] s (postSlot n s) := by
  unfold postSlot
  split
  · intro a ha
    cases a with
    | slots | postOrder => simp at ha
    | waits => exact calmFrom_refl _
    | wake => exact id
    | _ => rfl
  · exact keeps_refl _ s

theorem keeps_releaseSlot (n : Fin 4) (s : State) : keeps [.slots] s (releaseSlot n s) := by
  unfold releaseSlot
  split
  · exact keeps_setCommandSlot _ _
  · exact keeps_refl _ s

theorem keeps_abortSlot (n : Fin 4) (s : State) : keeps [.slots, .postOrder] s (abortSlot n s) := by
  unfold abortSlot
  split
  · refine keeps_trans (t := s.setPort _) (fun a ha => ?_) (keeps_mono (keeps_setFlag (by decide)) (by simp))
    cases a with
    | slots | postOrder => simp at ha
    | waits => exact calmFrom_refl _
    | wake => exact id
    | _ => rfl
  · exact keeps_refl _ s

theorem keeps_writeByte (address value : Byte) (s : State) : keeps [.slots] s (writeByte address value s) := by
  unfold writeByte
  split
  · split
    · exact keeps_setCommandSlot _ _
    · exact keeps_refl _ s
  · exact keeps_refl _ s

/-- R181: a write that clears WAKE discards the record with it. -/
theorem wakeFlagInv_writeFlags (v : Byte) (law : wakeFlagInv s) : wakeFlagInv (writeFlags v s) := by
  have flag : (writeFlags v s).flag .wake = (s.flag .wake && !v.getLsbD Flag.wake.bit) := getLsbD_clearOnes _ _ _
  have record : (writeFlags v s).doze.record = if v.getLsbD Flag.wake.bit then none else s.doze.record := by
    rw [doze_writeFlags]
  rw [wakeFlagInv, flag, record, law]
  cases v.getLsbD Flag.wake.bit <;> simp

theorem keeps_writeFlags (v : Byte) (s : State) : keeps [] s (writeFlags v s) := fun a _ => by
  cases a with
  | wake => exact wakeFlagInv_writeFlags v
  | host => rw [Aspect.kept, doze_writeFlags]
  | waits => exact calmFrom_refl _
  | _ => rfl

theorem keeps_writeCause (v : Byte) (s : State) : keeps [.cause] s (writeCause v s) := fun a ha => by
  cases a with
  | cause => simp at ha
  | waits => exact calmFrom_refl _
  | wake => exact id
  | _ => rfl

theorem keeps_writeEnables (v : Byte) (s : State) : keeps [] s (writeEnables v s) := fun a _ => by
  cases a with
  | waits => exact calmFrom_refl _
  | wake => exact id
  | _ => rfl

theorem keeps_storePower (h : HostState) (v : Byte) (s : State) : keeps [.host] s (storePower h v s) := fun a ha => by
  cases a with
  | host => simp at ha
  | waits => exact calmFrom_refl _
  | wake => exact id
  | _ => rfl

theorem keeps_writeDoze (v : Byte) (s : State) : keeps [.trunk, .host] s (writeDoze v s) :=
  keeps_append keeps_answerDeferred (keeps_storePower _ _ _)

/-! ## Ticks -/

/-- The aspects that the end of a period of REFCLK changes. -/
def periodAspects : List Aspect := [.time, .link, .runs]

theorem keeps_refclkPeriod (tkc tkd : LineMs) : keeps periodAspects s (refclkPeriod tkc tkd s) := by
  unfold refclkPeriod
  split
  · exact keeps_refl _ s
  · split
    · exact keeps_mono (keeps_setTime _) (by simp [periodAspects])
    · intro a ha
      cases a with
      | time | link | runs => simp [periodAspects] at ha
      | waits => exact calmFrom_refl _
      | wake => exact id
      | _ => rfl

theorem keeps_msEffect (tkc tkd : LineMs) : keeps periodAspects s (msEffect tkc tkd s) := by
  refine keeps_trans (t := fillDivider s) ?_ (keeps_refclkPeriod tkc tkd)
  unfold fillDivider
  split
  · exact keeps_refl _ s
  · exact keeps_mono (keeps_setTime _) (by simp [periodAspects])

theorem keeps_idlePeriod : keeps periodAspects s (idlePeriod s) := by
  unfold idlePeriod
  extract_lets lines
  split
  · exact keeps_trans (keeps_mono (keeps_setTime _) (by simp [periodAspects])) (keeps_refclkPeriod _ _)
  · exact keeps_refclkPeriod _ _

/-- R111: at a trunk fault a context keeps its ticket alone. -/
theorem context_enterFault (c : Fin 6) : (enterFault s).context c = TrunkContext.idleWith (s.context c).ticket :=
  mapAll_get _ s.trunk.contexts c

/-- R55: a 10-ms tick counts each deadline. -/
theorem context_tenMsEffect (c : Fin 6) : (tenMsEffect s).context c = countDeadline (s.context c) :=
  mapAll_get _ s.trunk.contexts c

theorem keeps_settleFault : keeps [.link, .trunk, .search, .cause] s (settleFault s) := by
  unfold settleFault
  split
  · intro a ha
    cases a with
    | waits =>
      intro c
      change Calm _ ((enterFault s).context c)
      rw [context_enterFault]
      exact calm_of_quiet (by simp [TrunkContext.idleWith]) rfl
    | wake => exact keeps_setTrunkCause (s := { s with link := _, trunk := _, search := _ }) .stuck .wake (by simp)
    | link | trunk | search | cause => simp at ha
    | _ => rfl
  · exact keeps_refl _ s

theorem keeps_settleRelease : keeps [.link, .runs] s (settleRelease s) := by
  unfold settleRelease
  split
  · exact keeps_setLink_runs _
  · exact keeps_refl _ s

/-- R134: the count of a deadline puts none off. -/
theorem calm_countDeadline (x : TrunkContext) : Calm x (countDeadline x) := by
  unfold countDeadline
  split
  · refine ⟨id, fun d hd => ?_⟩
    obtain ⟨e, he, rfl⟩ := Option.map_eq_some_iff.mp hd
    exact ⟨e, he, Nat.sub_le e 1⟩
  · exact calm_refl x

theorem keeps_settleTenMs : keeps [.time, .trunk] s (settleTenMs s) := by
  unfold settleTenMs
  split
  · intro a ha
    cases a with
    | waits =>
      intro c
      change Calm _ ((tenMsEffect s).context c)
      rw [context_tenMsEffect]
      exact calm_countDeadline _
    | wake => exact id
    | time | trunk => simp at ha
    | _ => rfl
  · exact keeps_refl _ s

theorem keeps_settleExpiry : keeps [.trunk] s (settleExpiry s) := by
  unfold settleExpiry
  split
  · exact keeps_endWaits _ _
  · exact keeps_refl _ s

theorem keeps_settleSecond : keeps [.time] s (settleSecond s) := by
  unfold settleSecond secondEffect
  split
  · split
    · exact keeps_setTime _
    · exact keeps_trans (keeps_setTime _) (keeps_mono (keeps_setFlag (by decide)) (by simp))
  · exact keeps_refl _ s

/-! ## The table -/

def everyAspect : List Aspect :=
  [.dir, .search, .time, .link, .runs, .trunk, .waits, .slots, .postOrder, .hrst, .transaction, .wake, .host,
    .cause, .loader, .params]

theorem mem_everyAspect (a : Aspect) : a ∈ everyAspect := by cases a <;> decide

theorem keeps_everyAspect : keeps everyAspect s t := fun a untouched => absurd (mem_everyAspect a) untouched

/-- What a row changes at most, beside what is due. -/
def touched : Instr → List Aspect
  | .fullReset | .trunkFault | .faultRelease | .tenMsTick | .deadlineExpiry | .secondTick =>
    everyAspect
  | .loadStart | .configRead _ _ _ _ _ => [.loader]
  | .presetCreate => [.dir, .loader]
  | .loadEnd => [.params, .loader]
  | .hostReset => hostAspects
  | .hostResetRelease => [.hrst]
  | .msTick _ _ => periodAspects
  | .sweep => [.time, .dir]
  | .create | .putAttr | .dropAttr | .retire | .lock | .unlock | .collect | .purge => [.slots, .postOrder, .dir]
  | .amend => [.slots, .postOrder, .dir]
  | .read | .readAttr | .results | .readForward | .unknownCommand => [.slots, .postOrder]
  | .searchStart | .searchCancel | .searchRelease => [.slots, .postOrder, .search]
  | .answer => [.slots, .postOrder, .trunk]
  | .setParam => [.slots, .postOrder, .params]
  | .post _ | .abort _ => [.slots, .postOrder]
  | .release _ | .windowWrite _ _ => [.slots]
  | .flagsWrite _ => []
  | .trunkCauseWrite _ => [.cause]
  | .enablesWrite _ => []
  | .powerDoze _ => [.trunk, .host]
  | .powerAwake _ => [.host]
  | .startCondition => [.link]
  | .restartCondition | .stopCondition | .receiveByte _ | .replySendStart | .arbitrationLost _ => linkAspects
  | .sendByteAck _ => .cause :: linkAspects
  | .announce | .refresh | .withdraw | .postAttr | .trunkDropAttr => [.trunk, .dir]
  | .seek => [.trunk, .search]
  | .fetch | .reject => [.trunk]
  | .claim | .yield => [.trunk, .dir]
  | .searchStep => .search :: seekAspects

/-- Every row keeps, of the state in which what is due has been taken, what the table does not name. -/
theorem after_keeps (i : Instr) (s : State) : keeps (touched i) (settle s) (after i s) := by
  cases i with
  | fullReset | trunkFault | faultRelease | tenMsTick | deadlineExpiry | secondTick =>
    exact keeps_everyAspect
  | loadStart => exact keeps_loadStart
  | configRead a b c d bytes => exact keeps_configRead a b c d bytes
  | presetCreate => exact keeps_presetCreate
  | loadEnd => exact keeps_loadEnd
  | hostReset => exact keeps_hostReset
  | hostResetRelease => exact keeps_hostResetRelease
  | msTick tkc tkd => exact keeps_msEffect tkc tkd
  | sweep => exact keeps_sweepGrant
  | create => exact keeps_commandGrant keeps_performCreate
  | amend => exact keeps_commandGrant keeps_performAmend
  | putAttr => exact keeps_commandGrant keeps_performPutAttr
  | dropAttr => exact keeps_commandGrant keeps_performDropAttr
  | retire => exact keeps_commandGrant keeps_performRetire
  | read => exact keeps_commandGrant keeps_performRead
  | readAttr => exact keeps_commandGrant keeps_performReadAttr
  | lock => exact keeps_commandGrant keeps_performLock
  | unlock => exact keeps_commandGrant keeps_performUnlock
  | searchStart => exact keeps_commandGrant keeps_performSearchStart
  | searchCancel => exact keeps_commandGrant keeps_performSearchCancel
  | results => exact keeps_commandGrant keeps_performResults
  | searchRelease => exact keeps_commandGrant keeps_performSearchRelease
  | collect => exact keeps_commandGrant keeps_performCollect
  | readForward => exact keeps_commandGrant keeps_performReadForward
  | answer => exact keeps_commandGrant keeps_performAnswer
  | purge => exact keeps_commandGrant keeps_performPurge
  | setParam => exact keeps_commandGrant keeps_performSetParam
  | unknownCommand => exact keeps_commandGrant fun _ u => keeps_refl _ u
  | post n => exact keeps_portWrite (keeps_postSlot n)
  | release n => exact keeps_portWrite (keeps_releaseSlot n)
  | abort n => exact keeps_portWrite (keeps_abortSlot n)
  | flagsWrite v => exact keeps_portWrite (keeps_writeFlags v)
  | trunkCauseWrite v => exact keeps_portWrite (keeps_writeCause v)
  | enablesWrite v => exact keeps_portWrite (keeps_writeEnables v)
  | powerDoze v => exact keeps_portWrite (keeps_writeDoze v)
  | powerAwake v => exact keeps_portWrite (keeps_storePower .awake v)
  | windowWrite a v => exact keeps_portWrite (keeps_writeByte a v)
  | startCondition => exact keeps_startEffect
  | restartCondition => exact keeps_restartEffect
  | stopCondition => exact keeps_stopEffect
  | receiveByte v => exact keeps_receiveEffect v
  | replySendStart => exact keeps_sendStart
  | sendByteAck acknowledged => exact keeps_ackEffect acknowledged
  | arbitrationLost bit => exact keeps_lostEffect bit
  | announce => exact keeps_trunkGrant_of_answers (select := selectAnnounce) answers_selectAnnounce
  | refresh => exact keeps_trunkGrant_of_answers (select := selectRefresh) answers_selectRefresh
  | withdraw => exact keeps_trunkGrant_of_answers (select := selectWithdraw) answers_selectWithdraw
  | seek => exact keeps_trunkGrant (select := selectSeek) keeps_selectSeek
  | fetch => exact keeps_trunkGrant_of_answers (select := selectFetch) answers_selectFetch
  | postAttr => exact keeps_trunkGrant_of_answers (select := selectPostAttr) answers_selectPostAttr
  | trunkDropAttr => exact keeps_trunkGrant_of_answers (select := selectDropAttr) answers_selectDropAttr
  | claim => exact keeps_trunkGrant_of_answers (select := selectClaim) answers_selectClaim
  | yield => exact keeps_trunkGrant_of_answers (select := selectYield) answers_selectYield
  | reject => exact keeps_trunkGrant_of_answers (select := selectReject) answers_selectReject
  | searchStep => exact keeps_searchGrant

/-! ## What every row keeps, every step keeps -/

/-- A predicate that every step keeps, row by row: it does not read the queue; a full reset gives it; each consequence of
a tick, a period of REFCLK, and each other row on what the consequences left, keeps it. -/
structure KeptByRows (I : State → Prop) : Prop where
  queue : ∀ s p, I s → I { s with pending := p }
  reset : ∀ s, I (after .fullReset s)
  fault : ∀ s, I s → I (settleFault s)
  release : ∀ s, I s → I (settleRelease s)
  tenMs : ∀ s, I s → I (settleTenMs s)
  expiry : ∀ s, I s → I (settleExpiry s)
  second : ∀ s, I s → I (settleSecond s)
  period : ∀ s, I s → I (idlePeriod s)
  row : ∀ i, i ∉ tickRows → ∀ s, I (settle s) → I (after i s)

variable {I : State → Prop}

theorem KeptByRows.settle (h : KeptByRows I) (s : State) (hs : I s) : I (settle s) :=
  h.second _ (h.expiry _ (h.tenMs _ (h.release _ (h.fault s hs))))

theorem KeptByRows.after (h : KeptByRows I) (i : Instr) (s : State) (hs : I s) : I (after i s) := by
  by_cases tick : i ∈ tickRows
  · simp only [tickRows, List.mem_cons, List.not_mem_nil, or_false] at tick
    obtain rfl | rfl | rfl | rfl | rfl | rfl := tick
    · exact h.reset s
    · exact h.fault s hs
    · exact h.release s hs
    · exact h.tenMs s hs
    · exact h.expiry s hs
    · exact h.second s hs
  · exact h.row i tick s (h.settle s hs)

theorem KeptByRows.step (h : KeptByRows I) (s : State) (hs : I s) : ∃ t, step s = .next t ∧ I t := by
  unfold Machine.step
  split
  · exact ⟨_, rfl, h.period _ (h.settle s hs)⟩
  next c rest _ => exact ⟨_, exec_eq_next c _, h.after c _ (h.queue s rest hs)⟩

theorem KeptByRows.step_of_iff (h : KeptByRows I) {J : State → Prop} (same : ∀ s, J s ↔ I s) (s : State) (hs : J s) :
    ∃ t, Machine.step s = .next t ∧ J t := by
  obtain ⟨t, next, kept⟩ := h.step s ((same s).mp hs)
  exact ⟨t, next, (same t).mpr kept⟩

/-- None of the aspects read is among those changed. -/
def apart (reads changed : List Aspect) : Bool := reads.all fun a => decide (a ∉ changed)

/-- An update whose aspects are known keeps a predicate that reads none of them. -/
theorem kept_of_keeps {reads : List Aspect} (congr : ∀ s t, (∀ a ∈ reads, a.kept s t) → I s → I t) (k : keeps A s t)
    (untouched : apart reads A = true) (hs : I s) : I t :=
  congr s t (fun a ha => k a (by simpa using List.all_eq_true.mp untouched a ha)) hs

/-- A row that changes none of the aspects a predicate reads keeps it. -/
theorem kept_of_untouched {reads : List Aspect} (congr : ∀ s t, (∀ a ∈ reads, a.kept s t) → I s → I t) (i : Instr)
    (untouched : apart reads (touched i) = true) {s : State} (hs : I (settle s)) : I (after i s) :=
  kept_of_keeps congr (after_keeps i s) untouched hs

end Sys2Proof.Proofs
end

section
/-! PROOFS. Every step keeps the ranges (3.1, R57, R110, R123, R158, R170, R195). -/

namespace Sys2Proof.Proofs

open Sys2Proof.Machine Sys2Proof.Laws

variable {s t : State} {p q : Params}

/-! ## Parameters (R158) -/

theorem inRange_iff : p.inRange = true ↔ 112 ≤ p.dirAddress.toNat ∧ p.dirAddress.toNat ≤ 127 ∧ 1 ≤ p.leaseMin
    ∧ p.leaseMin ≤ p.leaseMax ∧ p.leaseMax ≤ 65535 ∧ p.grace ≤ 255 ∧ 1 ≤ p.lockMax ∧ p.lockMax ≤ 255
    ∧ 1 ≤ p.fwdDeadline ∧ p.fwdDeadline ≤ 255 ∧ 999 ≤ p.msDivider ∧ p.msDivider ≤ 39999 := by
  simp [Params.inRange, and_assoc]

/-- A value that is taken is valid, and gives the parameters of its row. -/
theorem inRange_of_row {param : Byte} {v old : Nat} {valid : Prop} {r : Params} (row : ParamRow p param v valid q old)
    (range : valid → q.inRange = true) (taken : p.withValue param v = some r) : r.inRange = true := by
  by_cases inside : valid
  · rw [row.taken inside] at taken
    exact Option.some.inj taken ▸ range inside
  · rw [row.refused inside] at taken
    cases taken

/-- R158: a value that a parameter takes leaves the nine in their ranges. -/
theorem inRange_withValue {param : Byte} {v : Half} (range : p.inRange = true)
    (taken : p.withValue param v.toNat = some q) : q.inRange = true := by
  have small : v.toNat ≤ 65535 := Nat.le_of_lt_succ v.isLt
  have ranges := inRange_iff.mp range
  by_cases unknown : param.toNat = 0 ∨ 9 < param.toNat
  · exact inRange_of_row (paramRow_of_unknown unknown) False.elim taken
  have named : ∃ k : Fin 9, param = BitVec.ofNat 8 (k.val + 1) :=
    ⟨⟨param.toNat - 1, by omega⟩, BitVec.eq_of_toNat_eq (by simp only [BitVec.toNat_ofNat]; omega)⟩
  obtain ⟨k, rfl⟩ := named
  match k with
  | 0 =>
    exact inRange_of_row paramRow_dirAddress
      (fun inside => inRange_iff.mpr (by simp only [BitVec.toNat_ofNat]; omega)) taken
  | 1 => exact inRange_of_row paramRow_leaseMin (fun inside => inRange_iff.mpr (by dsimp only; omega)) taken
  | 2 => exact inRange_of_row paramRow_leaseMax (fun inside => inRange_iff.mpr (by dsimp only; omega)) taken
  | 3 => exact inRange_of_row paramRow_grace (fun inside => inRange_iff.mpr (by dsimp only; omega)) taken
  | 4 => exact inRange_of_row paramRow_lockMax (fun inside => inRange_iff.mpr (by dsimp only; omega)) taken
  | 5 => exact inRange_of_row paramRow_fwdDeadline (fun inside => inRange_iff.mpr (by dsimp only; omega)) taken
  | 6 => exact inRange_of_row paramRow_msDivider (fun inside => inRange_iff.mpr (by dsimp only; omega)) taken
  | 7 => exact inRange_of_row paramRow_trunkFlags (fun _ => inRange_iff.mpr ranges) taken
  | 8 => exact inRange_of_row paramRow_linkSpeed (fun _ => inRange_iff.mpr ranges) taken

/-- What SET_PARAM leaves of the parameters. -/
theorem performSetParam_eq (c : CommandSlot) (s : State) : (performSetParam c s).state = s
    ∨ ∃ q, s.params.withValue (c.byte Offset.selector) (c.half Offset.value).toNat = some q
      ∧ (performSetParam c s).state = s.setParams q := by
  unfold performSetParam
  extract_lets id
  split
  next q taken => exact .inr ⟨q, taken, rfl⟩
  next => exact .inl rfl

/-! ## Images -/

/-- R189, test 4: the parameters of an image that is not rejected are in range. -/
theorem inRange_of_parseParams {bytes : List Byte} (parsed : parseParams bytes = some p) : p.inRange = true := by
  unfold parseParams at parsed
  split at parsed
  · split at parsed
    · cases parsed
    · simp only at parsed
      split at parsed
      next ok => cases parsed; exact ok.2
      next => cases parsed
  · cases parsed

/-- R189: a walk over `n` presets finds `n`. -/
theorem length_of_parsePresets {n : Nat} {bytes : List Byte} {presets : List Preset}
    (parsed : parsePresets n bytes = some presets) : presets.length = n := by
  induction n generalizing bytes presets with
  | zero =>
    cases bytes with
    | nil => cases parsed; rfl
    | cons => cases parsed
  | succ n ih =>
    rw [parsePresets] at parsed
    split at parsed
    · split at parsed
      next rest => cases parsed; simp [ih rest]
      next => cases parsed
    · cases parsed

/-- R189: a judged image has parameters in range and at most eight presets. -/
theorem ranges_of_judgeRead {read : List Byte} {presets : List Preset} (judged : judgeRead read = some (p, presets)) :
    p.inRange = true ∧ presets.length ≤ 8 := by
  unfold judgeRead at judged
  split at judged
  · unfold judgeImage at judged
    extract_lets n summed sum count at judged
    split at judged
    next tests =>
      split at judged
      next params walked =>
        cases judged
        exact ⟨inRange_of_parseParams params, Nat.le_trans (Nat.le_of_eq (length_of_parsePresets walked)) tests.2⟩
      next => cases judged
    next => cases judged
  · cases judged

/-- R190: whatever a transfer brings, the loader's phase after it is in range. -/
theorem ranges_readPhase (line : List ConfigEvent) :
    (readPhase line).setInRange = true ∧ (readPhase line).presetCount ≤ 8 := by
  unfold readPhase
  split
  · exact ⟨by decide, by decide⟩
  · split
    next judged =>
      obtain ⟨range, few⟩ := ranges_of_judgeRead judged
      exact ⟨range, few⟩
    next => exact ⟨by decide, by decide⟩

/-! ## The ranges, by the aspects they lie in -/

/-- R158, R190: the parameters in force and those of a judged image. -/
def paramsOk (s : State) : Prop := s.params.inRange = true ∧ s.loader.phase.setInRange = true

/-- R189, R195: the preset counts. -/
def countsOk (s : State) : Prop :=
  s.loader.phase.presetCount ≤ 8 ∧ s.loader.presetsLoaded + s.loader.presetsSkipped ≤ 8

/-- 3.1, R57: the counts of the time base. -/
def timeOk (t : TimeBase) : Prop :=
  999 ≤ t.dividerInForce ∧ t.dividerInForce ≤ 39999 ∧ t.dividerCount ≤ t.dividerInForce
    ∧ t.tenMsCount ≤ 9 ∧ t.secondCount ≤ 99 ∧ t.owed ≤ 15

def clockOk (s : State) : Prop := timeOk s.time

/-- R110: the low runs. -/
def runsOk (s : State) : Prop := s.link.tkcLow ≤ 25 ∧ s.link.tkdLow ≤ 25

/-- R170, R196: the bits of TRUNK CAUSE that name no cause are 0. -/
def causeOk (s : State) : Prop := s.notify.cause.toNat ≤ 3

/-- R134: every deadline is at most the longest one (R158). -/
def deadlinesOk (s : State) : Prop := ∀ c d, (s.context c).deadline = some d → d ≤ 255

theorem rangesInv_iff (s : State) :
    rangesInv s ↔ ((paramsOk s ∧ clockOk s) ∧ deadlinesOk s) ∧ countsOk s ∧ runsOk s ∧ causeOk s := by
  simp only [rangesInv, paramsOk, countsOk, clockOk, timeOk, runsOk, causeOk, deadlinesOk]
  constructor
  · rintro ⟨params, set, count, loaded, low, high, within, tens, second, owed, tkc, tkd, cause, deadlines⟩
    exact ⟨⟨⟨⟨params, set⟩, low, high, within, tens, second, owed⟩, deadlines⟩, ⟨count, loaded⟩, ⟨tkc, tkd⟩, cause⟩
  · rintro ⟨⟨⟨⟨params, set⟩, low, high, within, tens, second, owed⟩, deadlines⟩, ⟨count, loaded⟩, ⟨tkc, tkd⟩, cause⟩
    exact ⟨params, set, count, loaded, low, high, within, tens, second, owed, tkc, tkd, cause, deadlines⟩

theorem paramsOk_congr (s t : State) (same : ∀ a ∈ [Aspect.loader, .params], a.kept s t) (h : paramsOk s) :
    paramsOk t := by
  have loader : t.loader = s.loader := same .loader (by simp)
  have params : t.params = s.params := same .params (by simp)
  rwa [paramsOk, loader, params]

theorem countsOk_congr (s t : State) (same : ∀ a ∈ [Aspect.loader], a.kept s t) (h : countsOk s) : countsOk t := by
  have loader : t.loader = s.loader := same .loader (by simp)
  rwa [countsOk, loader]

theorem runsOk_congr (s t : State) (same : ∀ a ∈ [Aspect.runs], a.kept s t) (h : runsOk s) : runsOk t := by
  have runs : (t.link.tkcLow, t.link.tkdLow) = (s.link.tkcLow, s.link.tkdLow) := same .runs (by simp)
  obtain ⟨tkc, tkd⟩ := Prod.mk.inj runs
  rwa [runsOk, tkc, tkd]

theorem causeOk_congr (s t : State) (same : ∀ a ∈ [Aspect.cause], a.kept s t) (h : causeOk s) : causeOk t := by
  have cause : t.notify.cause = s.notify.cause := same .cause (by simp)
  rwa [causeOk, cause]

theorem deadlinesOk_congr (s t : State) (same : ∀ a ∈ [Aspect.waits], a.kept s t) (h : deadlinesOk s) :
    deadlinesOk t := by
  intro c d hd
  have calm : Calm (s.context c) (t.context c) := same .waits (by simp) c
  obtain ⟨e, he, small⟩ := calm.2 d hd
  exact Nat.le_trans small (h c e he)

theorem clockOk_congr (s t : State) (same : ∀ a ∈ [Aspect.time], a.kept s t) (h : clockOk s) : clockOk t := by
  have time : t.time = s.time := same .time (by simp)
  rwa [clockOk, time]

theorem keptByRows_and {I J : State → Prop} (h : KeptByRows I) (k : KeptByRows J) :
    KeptByRows fun s => I s ∧ J s where
  queue s p hs := ⟨h.queue s p hs.1, k.queue s p hs.2⟩
  reset s := ⟨h.reset s, k.reset s⟩
  fault s hs := ⟨h.fault s hs.1, k.fault s hs.2⟩
  release s hs := ⟨h.release s hs.1, k.release s hs.2⟩
  tenMs s hs := ⟨h.tenMs s hs.1, k.tenMs s hs.2⟩
  expiry s hs := ⟨h.expiry s hs.1, k.expiry s hs.2⟩
  second s hs := ⟨h.second s hs.1, k.second s hs.2⟩
  period s hs := ⟨h.period s hs.1, k.period s hs.2⟩
  row i other s hs := ⟨h.row i other s hs.1, k.row i other s hs.2⟩

/-- A predicate that every step keeps in states of which `P` holds. -/
structure KeptGiven (P I : State → Prop) : Prop where
  queue : ∀ s p, I s → I { s with pending := p }
  reset : ∀ s, I (after .fullReset s)
  fault : ∀ s, P s → I s → I (settleFault s)
  release : ∀ s, P s → I s → I (settleRelease s)
  tenMs : ∀ s, P s → I s → I (settleTenMs s)
  expiry : ∀ s, P s → I s → I (settleExpiry s)
  second : ∀ s, P s → I s → I (settleSecond s)
  period : ∀ s, P s → I s → I (idlePeriod s)
  row : ∀ i, i ∉ tickRows → ∀ s, P (settle s) → I (settle s) → I (after i s)

theorem KeptByRows.with {P I : State → Prop} (h : KeptByRows P) (k : KeptGiven P I) : KeptByRows fun s => P s ∧ I s where
  queue s p hs := ⟨h.queue s p hs.1, k.queue s p hs.2⟩
  reset s := ⟨h.reset s, k.reset s⟩
  fault s hs := ⟨h.fault s hs.1, k.fault s hs.1 hs.2⟩
  release s hs := ⟨h.release s hs.1, k.release s hs.1 hs.2⟩
  tenMs s hs := ⟨h.tenMs s hs.1, k.tenMs s hs.1 hs.2⟩
  expiry s hs := ⟨h.expiry s hs.1, k.expiry s hs.1 hs.2⟩
  second s hs := ⟨h.second s hs.1, k.second s hs.1 hs.2⟩
  period s hs := ⟨h.period s hs.1, k.period s hs.1 hs.2⟩
  row i other s hs := ⟨h.row i other s hs.1, k.row i other s hs.1 hs.2⟩

/-! ## Parameters and preset counts -/

/-- A Command grant keeps what taking the command, performing it and finishing the slot keep. -/
theorem kept_commandGrant {I : State → Prop} {accepts : Byte → Bool} {perform : CommandSlot → State → Completion}
    (take : I s → I (takeCommand s)) (performed : ∀ c u, I u → I (perform c u).state)
    (finish : ∀ n r, I r.state → I (finishCommand n r)) (h : I s) : I (commandGrant accepts perform s) := by
  unfold commandGrant
  split
  · exact h
  · split
    · exact finish _ _ (performed _ _ (take h))
    · exact h

theorem paramsOk_presetCreate (h : paramsOk (settle s)) : paramsOk (after .presetCreate s) := by
  simp only [after, exec, execPresetCreate]
  generalize settle s = u at h
  obtain ⟨params, set⟩ := h
  split
  next phase =>
    rw [phase] at set
    split
    next placed =>
      have kept : _ = u.params := keeps_placePreset placed .params (by simp)
      exact ⟨kept ▸ params, set⟩
    · exact ⟨params, set⟩
  all_goals exact ⟨params, set⟩

/-- R191: a preset that is judged is made or skipped; the count of presets stays. -/
theorem countsOk_presetCreate (h : countsOk (settle s)) : countsOk (after .presetCreate s) := by
  simp only [after, exec, execPresetCreate]
  generalize settle s = u at h
  obtain ⟨count, loaded⟩ := h
  split
  next outcome q x left made skipped phase =>
    rw [phase] at count
    simp only [LoadPhase.presetCount, List.length_cons] at count
    split
    next v placed =>
      have loader : v.loader = u.loader := keeps_placePreset placed .loader (by simp)
      refine ⟨?_, ?_⟩
      · simp only [setLoader_loader, LoadPhase.presetCount]
        omega
      · simp only [setLoader_loader, loader]
        exact loaded
    next =>
      refine ⟨?_, loaded⟩
      simp only [setLoader_loader, LoadPhase.presetCount]
      omega
  all_goals exact ⟨count, loaded⟩

/-- R194: load end puts the set of the image in force. -/
theorem paramsOk_loadEnd (h : paramsOk (settle s)) : paramsOk (after .loadEnd s) := by
  simp only [after, exec, execLoadEnd]
  generalize settle s = u at h
  obtain ⟨params, set⟩ := h
  split
  next phase =>
    rw [phase] at set
    exact ⟨set, rfl⟩
  all_goals exact ⟨params, set⟩

theorem countsOk_loadEnd (h : countsOk (settle s)) : countsOk (after .loadEnd s) := by
  simp only [after, exec, execLoadEnd]
  generalize settle s = u at h
  obtain ⟨count, loaded⟩ := h
  split
  next phase =>
    rw [phase] at count
    simp only [LoadPhase.presetCount, List.length_nil] at count
    refine ⟨Nat.zero_le 8, ?_⟩
    simp only [setFlag_loader, setLoader_loader]
    omega
  all_goals exact ⟨count, loaded⟩

theorem paramsOk_configRead (a b c d : Bool) (bytes : List Byte) (h : paramsOk (settle s)) :
    paramsOk (after (.configRead a b c d bytes) s) := by
  simp only [after, exec, execConfigRead]
  generalize settle s = u at h
  split
  · exact ⟨h.1, (ranges_readPhase (transfer a b c d bytes)).1⟩
  · exact h

theorem countsOk_configRead (a b c d : Bool) (bytes : List Byte) (h : countsOk (settle s)) :
    countsOk (after (.configRead a b c d bytes) s) := by
  simp only [after, exec, execConfigRead]
  generalize settle s = u at h
  split
  · exact ⟨(ranges_readPhase (transfer a b c d bytes)).2, h.2⟩
  · exact h

theorem paramsOk_loadStart (h : paramsOk (settle s)) : paramsOk (after .loadStart s) := by
  simp only [after, exec, execLoadStart]
  generalize settle s = u at h
  split
  · exact ⟨h.1, rfl⟩
  · exact h

theorem countsOk_loadStart (h : countsOk (settle s)) : countsOk (after .loadStart s) := by
  simp only [after, exec, execLoadStart]
  generalize settle s = u at h
  split
  · exact ⟨Nat.zero_le 8, h.2⟩
  · exact h

theorem paramsOk_performSetParam (c : CommandSlot) (u : State) (h : paramsOk u) :
    paramsOk (performSetParam c u).state := by
  obtain same | ⟨q, taken, done⟩ := performSetParam_eq c u
  · rwa [same]
  · rw [done]
    exact ⟨inRange_withValue h.1 taken, h.2⟩

theorem paramsOk_setParam (h : paramsOk (settle s)) : paramsOk (after .setParam s) :=
  kept_commandGrant (perform := performSetParam) (kept_of_keeps paramsOk_congr keeps_takeCommand rfl)
    paramsOk_performSetParam (fun _ _ => kept_of_keeps paramsOk_congr (keeps_finishCommand (A := []) (keeps_refl _ _)) rfl) h

theorem paramsOk_kept : KeptByRows paramsOk where
  queue _ _ := id
  reset _ := ⟨rfl, rfl⟩
  fault _ := kept_of_keeps paramsOk_congr keeps_settleFault rfl
  release _ := kept_of_keeps paramsOk_congr keeps_settleRelease rfl
  tenMs _ := kept_of_keeps paramsOk_congr keeps_settleTenMs rfl
  expiry _ := kept_of_keeps paramsOk_congr keeps_settleExpiry rfl
  second _ := kept_of_keeps paramsOk_congr keeps_settleSecond rfl
  period _ := kept_of_keeps paramsOk_congr keeps_idlePeriod rfl
  row i other s h := by
    cases i with
    | fullReset | trunkFault | faultRelease | tenMsTick | deadlineExpiry | secondTick => exact absurd (by decide) other
    | loadStart => exact paramsOk_loadStart h
    | configRead a b c d bytes => exact paramsOk_configRead a b c d bytes h
    | presetCreate => exact paramsOk_presetCreate h
    | loadEnd => exact paramsOk_loadEnd h
    | setParam => exact paramsOk_setParam h
    | _ => exact kept_of_untouched paramsOk_congr _ rfl h

theorem countsOk_kept : KeptByRows countsOk where
  queue _ _ := id
  reset _ := ⟨Nat.zero_le 8, Nat.zero_le 8⟩
  fault _ := kept_of_keeps countsOk_congr keeps_settleFault rfl
  release _ := kept_of_keeps countsOk_congr keeps_settleRelease rfl
  tenMs _ := kept_of_keeps countsOk_congr keeps_settleTenMs rfl
  expiry _ := kept_of_keeps countsOk_congr keeps_settleExpiry rfl
  second _ := kept_of_keeps countsOk_congr keeps_settleSecond rfl
  period _ := kept_of_keeps countsOk_congr keeps_idlePeriod rfl
  row i other s h := by
    cases i with
    | fullReset | trunkFault | faultRelease | tenMsTick | deadlineExpiry | secondTick => exact absurd (by decide) other
    | loadStart => exact countsOk_loadStart h
    | configRead a b c d bytes => exact countsOk_configRead a b c d bytes h
    | presetCreate => exact countsOk_presetCreate h
    | loadEnd => exact countsOk_loadEnd h
    | _ => exact kept_of_untouched countsOk_congr _ rfl h

/-! ## The time base -/

theorem timeOk_tickTime {b : TimeBase} (range : p.inRange = true) (h : timeOk b) : timeOk (tickTime p.msDivider b) := by
  obtain ⟨-, -, -, -, -, -, -, -, -, -, ms, ms'⟩ := inRange_iff.mp range
  obtain ⟨-, -, -, -, second, owed⟩ := h
  refine ⟨ms, ms', Nat.zero_le _, ?_, second, owed⟩
  simp only [tickTime]
  split
  · exact Nat.zero_le 9
  next early => simp only [decide_eq_true_eq] at early; omega

theorem clockOk_refclkPeriod (tkc tkd : LineMs) (params : paramsOk s) (h : clockOk s) :
    clockOk (refclkPeriod tkc tkd s) := by
  unfold refclkPeriod
  split
  · exact h
  · split
    next below =>
      obtain ⟨low, high, -, rest⟩ := h
      exact ⟨low, high, below, rest⟩
    next => exact timeOk_tickTime params.1 h

theorem clockOk_msEffect (tkc tkd : LineMs) (params : paramsOk s) (h : clockOk s) : clockOk (msEffect tkc tkd s) := by
  unfold msEffect fillDivider
  split
  · exact clockOk_refclkPeriod tkc tkd params h
  · obtain ⟨low, high, within, rest⟩ := h
    exact clockOk_refclkPeriod tkc tkd params ⟨low, high, Nat.max_le.mpr ⟨within, Nat.le_refl _⟩, rest⟩

theorem clockOk_idlePeriod (params : paramsOk s) (h : clockOk s) : clockOk (idlePeriod s) := by
  unfold idlePeriod
  extract_lets lines
  split
  · exact clockOk_refclkPeriod _ _ (s := s.setTime _) params h
  · exact clockOk_refclkPeriod _ _ params h

theorem clockOk_settleTenMs (h : clockOk s) : clockOk (settleTenMs s) := by
  unfold settleTenMs
  split
  · obtain ⟨low, high, within, tens, second, owed⟩ := h
    refine ⟨low, high, within, tens, ?_, owed⟩
    simp only [tenMsEffect]
    split
    · exact Nat.zero_le 99
    next early => simp only [decide_eq_true_eq] at early; omega
  · exact h

theorem clockOk_settleSecond (h : clockOk s) : clockOk (settleSecond s) := by
  unfold settleSecond secondEffect
  split
  · obtain ⟨low, high, within, tens, second, owed⟩ := h
    split
    next room => exact ⟨low, high, within, tens, second, room⟩
    next => exact ⟨low, high, within, tens, second, owed⟩
  · exact h

/-- R60: the sweep takes the seconds owed. -/
theorem clockOk_sweep (h : clockOk s) : clockOk (sweepGrant s) := by
  unfold sweepGrant
  split
  · obtain ⟨low, high, within, tens, second, owed⟩ := h
    exact kept_of_keeps clockOk_congr (keeps_foldl (keeps_sweepSlot s.time.owed s.params.grace) allSlots _) rfl
      ⟨low, high, within, tens, second, Nat.zero_le 15⟩
  · exact h

theorem clockOk_kept : KeptGiven paramsOk clockOk where
  queue _ _ := id
  reset _ := by simp [clockOk, after, exec, execFullReset, timeOk, TimeBase.reset]
  fault _ _ := kept_of_keeps clockOk_congr keeps_settleFault rfl
  release _ _ := kept_of_keeps clockOk_congr keeps_settleRelease rfl
  tenMs _ _ := clockOk_settleTenMs
  expiry _ _ := kept_of_keeps clockOk_congr keeps_settleExpiry rfl
  second _ _ := clockOk_settleSecond
  period _ := clockOk_idlePeriod
  row i other s params h := by
    cases i with
    | fullReset | trunkFault | faultRelease | tenMsTick | deadlineExpiry | secondTick => exact absurd (by decide) other
    | msTick tkc tkd => exact clockOk_msEffect tkc tkd params h
    | sweep => exact clockOk_sweep h
    | _ => exact kept_of_untouched clockOk_congr _ rfl h

/-! ## Low runs, causes and deadlines -/

theorem lowRun_le (line : LineMs) (run : Nat) : lowRun line run ≤ 25 := by
  cases line with
  | low => exact Nat.min_le_left 25 (run + 1)
  | high | mixed => exact Nat.zero_le 25

theorem runsOk_refclkPeriod (tkc tkd : LineMs) (h : runsOk s) : runsOk (refclkPeriod tkc tkd s) := by
  unfold refclkPeriod
  split
  · exact h
  · split
    · exact h
    · simp only [runsOk, tickLink]
      split
      · exact h
      all_goals exact ⟨lowRun_le _ _, lowRun_le _ _⟩

theorem runsOk_idlePeriod (h : runsOk s) : runsOk (idlePeriod s) := by
  unfold idlePeriod
  extract_lets lines
  split <;> exact runsOk_refclkPeriod _ _ h

theorem runsOk_msEffect (tkc tkd : LineMs) (h : runsOk s) : runsOk (msEffect tkc tkd s) := by
  refine runsOk_refclkPeriod tkc tkd ?_
  unfold fillDivider
  split <;> exact h

theorem runsOk_settleRelease (h : runsOk s) : runsOk (settleRelease s) := by
  unfold settleRelease
  split
  · exact ⟨Nat.zero_le 25, Nat.zero_le 25⟩
  · exact h

theorem runsOk_kept : KeptByRows runsOk where
  queue _ _ := id
  reset _ := ⟨Nat.zero_le 25, Nat.zero_le 25⟩
  fault _ := kept_of_keeps runsOk_congr keeps_settleFault rfl
  release _ := runsOk_settleRelease
  tenMs _ := kept_of_keeps runsOk_congr keeps_settleTenMs rfl
  expiry _ := kept_of_keeps runsOk_congr keeps_settleExpiry rfl
  second _ := kept_of_keeps runsOk_congr keeps_settleSecond rfl
  period _ := runsOk_idlePeriod
  row i other s h := by
    cases i with
    | fullReset | trunkFault | faultRelease | tenMsTick | deadlineExpiry | secondTick => exact absurd (by decide) other
    | msTick tkc tkd => exact runsOk_msEffect tkc tkd h
    | _ => exact kept_of_untouched runsOk_congr _ rfl h

/-- A byte that holds no more than its two lowest bits. -/
theorem toNat_le_three_iff (b : Byte) : b.toNat ≤ 3 ↔ b >>> 2 = 0 := by
  rw [← BitVec.toNat_inj, BitVec.toNat_ushiftRight, Nat.shiftRight_eq_div_pow]
  change b.toNat ≤ 3 ↔ b.toNat / 4 = 0
  omega

theorem causeOk_setTrunkCause (c : Cause) (h : causeOk s) : causeOk (setTrunkCause c s) := by
  rw [causeOk, toNat_le_three_iff] at h ⊢
  rw [setTrunkCause_notify, BitVec.ushiftRight_or_distrib, h]
  cases c <;> rfl

theorem causeOk_writeCause (v : Byte) (h : causeOk s) : causeOk (writeCause v s) := by
  rw [causeOk, toNat_le_three_iff] at h ⊢
  rw [writeCause_notify, clearOnes, BitVec.ushiftRight_and_distrib, h]
  exact BitVec.zero_and

theorem causeOk_settleFault (h : causeOk s) : causeOk (settleFault s) := by
  unfold settleFault
  split
  · exact causeOk_setTrunkCause .stuck h
  · exact h

theorem causeOk_ackEffect (acknowledged : Bool) (h : causeOk s) : causeOk (ackEffect acknowledged s) := by
  unfold ackEffect
  split
  · exact h
  · split
    · exact causeOk_setTrunkCause .undelivered h
    · split <;> exact h

theorem causeOk_kept : KeptByRows causeOk where
  queue _ _ := id
  reset _ := Nat.zero_le 3
  fault _ := causeOk_settleFault
  release _ := kept_of_keeps causeOk_congr keeps_settleRelease rfl
  tenMs _ := kept_of_keeps causeOk_congr keeps_settleTenMs rfl
  expiry _ := kept_of_keeps causeOk_congr keeps_settleExpiry rfl
  second _ := kept_of_keeps causeOk_congr keeps_settleSecond rfl
  period _ := kept_of_keeps causeOk_congr keeps_idlePeriod rfl
  row i other s h := by
    cases i with
    | fullReset | trunkFault | faultRelease | tenMsTick | deadlineExpiry | secondTick => exact absurd (by decide) other
    | hostReset =>
      simp only [after, exec, execHostReset]
      split
      · exact h
      · exact Nat.zero_le 3
    | trunkCauseWrite v =>
      change causeOk (portWrite (writeCause v) (settle s))
      unfold portWrite
      split
      · exact causeOk_writeCause v h
      · exact h
    | sendByteAck acknowledged => exact causeOk_ackEffect acknowledged h
    | _ => exact kept_of_untouched causeOk_congr _ rfl h

/-- R133: a SEEK end gives its context the deadline of FWD_DEADLINE, or none. -/
theorem deadline_seekEnd {c d : Fin 6} {results : List Handle} {cursor n : Nat}
    (deadline : ((seekEnd c results cursor s).context d).deadline = some n) :
    n = s.params.fwdDeadline ∨ (s.context d).deadline = some n := by
  by_cases same : d = c
  · subst same
    left
    cases guarded : (seekItems s d results).any (fun y => y.guarded) with
    | false =>
      obtain ⟨left, -⟩ := seekEnd_effect_of_open (cursor := cursor) rfl guarded
      rw [left.context] at deadline
      cases deadline
    | true =>
      cases host : s.doze.host with
      | awake =>
        obtain ⟨left, -⟩ := seekEnd_effect_of_awake (cursor := cursor) rfl guarded host
        rw [left.context] at deadline
        exact (Option.some.inj deadline).symm
      | doze =>
        obtain ⟨left, -⟩ := seekEnd_effect_of_doze (cursor := cursor) rfl guarded host
        rw [left.context] at deadline
        cases deadline
  · right
    rwa [(seekEnd_others c results cursor s).2 d same] at deadline

theorem deadlinesOk_searchGrant (range : s.params.inRange = true) (h : deadlinesOk s) : deadlinesOk (searchGrant s) := by
  obtain ⟨-, -, -, -, -, -, -, -, -, small, -, -⟩ := inRange_iff.mp range
  obtain same | ⟨k, r, -, served⟩ := searchGrant_eq s
  · rwa [same]
  rw [served]
  generalize walk s (stepSlots r.burst) r = stopped
  rcases stopped with ⟨r, _ | code⟩
  · exact h
  · cases owner : r.owner with
    | loc =>
      rw [endSearch_of_loc code owner]
      exact h
    | trunk c =>
      rw [endSearch_of_trunk code owner]
      intro d n deadline
      obtain rfl | before := deadline_seekEnd deadline
      · exact small
      · exact h d n before

theorem deadlinesOk_kept : KeptGiven (fun s => paramsOk s ∧ clockOk s) deadlinesOk where
  queue _ _ := id
  reset s := fun c d hd => by
    have idle : ((after .fullReset s).context c) = TrunkContext.idleWith 0 := Vector.getElem_replicate _
    rw [idle] at hd
    cases hd
  fault _ _ := kept_of_keeps deadlinesOk_congr keeps_settleFault rfl
  release _ _ := kept_of_keeps deadlinesOk_congr keeps_settleRelease rfl
  tenMs _ _ := kept_of_keeps deadlinesOk_congr keeps_settleTenMs rfl
  expiry _ _ := kept_of_keeps deadlinesOk_congr keeps_settleExpiry rfl
  second _ _ := kept_of_keeps deadlinesOk_congr keeps_settleSecond rfl
  period _ _ := kept_of_keeps deadlinesOk_congr keeps_idlePeriod rfl
  row i other s given h := by
    cases i with
    | fullReset | trunkFault | faultRelease | tenMsTick | deadlineExpiry | secondTick => exact absurd (by decide) other
    | searchStep => exact deadlinesOk_searchGrant given.1.1 h
    | _ => exact kept_of_untouched deadlinesOk_congr _ rfl h

/-! ## All the ranges -/

/-- Each range by the rows that touch what it reads; the time base and the deadlines take theirs from the parameters. -/
theorem rangesOk_kept :
    KeptByRows fun s => ((paramsOk s ∧ clockOk s) ∧ deadlinesOk s) ∧ countsOk s ∧ runsOk s ∧ causeOk s :=
  keptByRows_and ((paramsOk_kept.with clockOk_kept).with deadlinesOk_kept)
    (keptByRows_and countsOk_kept (keptByRows_and runsOk_kept causeOk_kept))

/-- Settles O57: every row keeps each of the ranges. -/
theorem everyStepKeepsTheRanges : Obligations.EveryStepKeepsTheRanges := rangesOk_kept.step_of_iff rangesInv_iff

end Sys2Proof.Proofs
end

section
/-! PROOFS. Every step keeps the searches sound (R86, R88, R100). -/

namespace Sys2Proof.Proofs

open Sys2Proof.Machine Sys2Proof.Laws

variable {s t : State} {r : Search} {x : SearchContext} {k : Fin 4}

/-! ## One search context -/

/-- What `searchInv` asks of a search context. -/
def SearchOk : SearchContext → Prop
  | .idle => True
  | .running r => r.ok ∧ r.cursor < 256 ∧ r.results.length < r.limit
  | .done _ r => r.ok ∧ r.owner = .loc

/-- `searchInv`, context by context. -/
structure SearchesOk (s : State) : Prop where
  context : ∀ k, SearchOk (s.searchContext k)

theorem searchInv_iff (s : State) : searchInv s ↔ SearchesOk s := by
  have same : searchInv s ↔ ∀ k, SearchOk (s.searchContext k) :=
    forall_congr' fun k => by cases s.searchContext k <;> rfl
  exact ⟨fun h => ⟨same.mp h⟩, fun h => same.mpr h.context⟩

theorem searchesOk_of_search (h : SearchesOk s) (search : t.search = s.search) : SearchesOk t := by
  have contexts (k : Fin 4) : t.searchContext k = s.searchContext k := by rw [State.searchContext, search]; rfl
  exact ⟨fun k => contexts k ▸ h.context k⟩

theorem searchesOk_congr (s t : State) (same : ∀ a ∈ [Aspect.search], a.kept s t) (h : SearchesOk s) : SearchesOk t :=
  searchesOk_of_search h (same .search (by simp))

theorem searchesOk_setSearch (h : SearchesOk s) (ok : SearchOk x) : SearchesOk (s.setSearch k x) := by
  refine ⟨fun j => ?_⟩
  rw [searchContext_setSearch]
  split
  · exact ok
  · exact h.context j

/-- A search context of which at most the results and the cursor went: it is as it was, or IDLE. -/
theorem searchesOk_mapAll {f : SearchContext → SearchContext} (idles : ∀ x, f x = x ∨ f x = .idle)
    (search : t.search = mapAll f s.search) (h : SearchesOk s) : SearchesOk t := by
  refine ⟨fun k => ?_⟩
  have mapped : t.searchContext k = f (s.searchContext k) := by
    rw [State.searchContext, search]
    exact mapAll_get f s.search k
  rw [mapped]
  obtain same | idle := idles (s.searchContext k)
  · rw [same]
    exact h.context k
  · rw [idle]
    trivial

theorem idleLocalSearch_idles (x : SearchContext) : idleLocalSearch x = x ∨ idleLocalSearch x = .idle := by
  rcases x with _ | r | ⟨code, r⟩
  · exact .inl rfl
  all_goals cases owner : r.owner <;> simp [idleLocalSearch, owner]

theorem idleTrunkSearch_idles (x : SearchContext) : idleTrunkSearch x = x ∨ idleTrunkSearch x = .idle := by
  rcases x with _ | r | ⟨code, r⟩
  · exact .inl rfl
  all_goals cases owner : r.owner <;> simp [idleTrunkSearch, owner]

/-! ## The walk -/

/-- R5: the handle of a slot names the slot. -/
theorem handleSlot_handleOf (s : State) (i : SlotNo) : handleSlot (s.handleOf i) = i := by
  have names := toNat_mkHandle (s.slot i).generation i
  have := i.isLt
  apply Fin.ext
  simp only [handleSlot, State.handleOf, names]
  omega

/-- R94: a slot examined keeps the list ascending, within the limit, and below the cursor. -/
theorem ok_examineSlot (s : State) (left : r.cursor < 256) (room : r.results.length < r.limit) (ok : r.ok) :
    (examineSlot s ⟨r.cursor, left⟩ r).ok := by
  obtain ⟨start, cursor, limit, limit', length, ascending, within, owner⟩ := ok
  have below : ∀ h ∈ r.results, r.start ≤ (handleSlot h).val ∧ (handleSlot h).val < r.cursor + 1 :=
    fun h mem => ⟨(within h mem).1, Nat.lt_succ_of_lt (within h mem).2⟩
  refine ⟨Nat.le_succ_of_le start, left, limit, limit', ?_, ?_, ?_, owner⟩
  all_goals
    simp only [examineSlot]
    split
  · rw [List.length_append, List.length_singleton]
    exact room
  · exact length
  · refine List.pairwise_append.mpr ⟨ascending, List.pairwise_singleton _ _, fun a ha b hb => ?_⟩
    rw [List.mem_singleton.mp hb, handleSlot_handleOf]
    exact (within a ha).2
  · exact ascending
  · intro h mem
    rcases List.mem_append.mp mem with old | new
    · exact below h old
    · rw [List.mem_singleton.mp new, handleSlot_handleOf]
      exact ⟨start, Nat.lt_succ_self _⟩
  · exact below

/-- R94, R97: what a walk leaves is sound; where it goes on, slots and room are left. -/
theorem walk_sound (s : State) (n : Nat) (ok : SearchOk (.running r)) :
    (walk s n r).1.ok ∧ ((walk s n r).2 = none → SearchOk (.running (walk s n r).1)) := by
  induction n generalizing r with
  | zero => exact ⟨ok.1, fun _ => ok⟩
  | succ n ih =>
    obtain ⟨sound, left, room⟩ := ok
    have next : (movedTo s r (r.cursor + 1)).ok := examineSlot_eq_movedTo left ▸ ok_examineSlot s left room sound
    rw [walk_succ left room]
    extract_lets moved
    split
    next goesOn =>
      exact ih ⟨next, left_and_room_of_endAt goesOn left (movedTo_succ_length_le left room)⟩
    next ends => exact ⟨next, fun goesOn => absurd goesOn ends⟩

/-! ## The rows -/

theorem searchesOk_endSearch {code : Option EndCode} (ok : r.ok) (goesOn : code = none → SearchOk (.running r))
    (h : SearchesOk s) : SearchesOk (endSearch k r code s) := by
  cases code with
  | none => exact searchesOk_setSearch h (goesOn rfl)
  | some code =>
    cases owner : r.owner with
    | loc =>
      rw [endSearch_of_loc code owner]
      exact searchesOk_of_search (searchesOk_setSearch (k := k) (x := .done code r) h ⟨ok, owner⟩) rfl
    | trunk c =>
      rw [endSearch_of_trunk code owner]
      exact kept_of_keeps searchesOk_congr (keeps_seekEnd c _ _) rfl (searchesOk_setSearch (x := .idle) h trivial)

theorem searchesOk_searchGrant (h : SearchesOk s) : SearchesOk (searchGrant s) := by
  obtain same | ⟨k, r, running, served⟩ := searchGrant_eq s
  · rwa [same]
  have ok : SearchOk (.running r) := running ▸ h.context k
  obtain ⟨sound, goesOn⟩ := walk_sound s (stepSlots r.burst) ok
  rw [served]
  exact searchesOk_endSearch sound goesOn (searchesOk_of_search h rfl)

/-- A Command grant keeps the searches sound if performing its command does. -/
theorem searchesOk_commandGrant {accepts : Byte → Bool} {perform : CommandSlot → State → Completion}
    (performed : ∀ c u, SearchesOk u → SearchesOk (perform c u).state) (h : SearchesOk s) :
    SearchesOk (commandGrant accepts perform s) :=
  kept_commandGrant (kept_of_keeps searchesOk_congr keeps_takeCommand rfl) performed
    (fun _ _ => kept_of_keeps searchesOk_congr (keeps_finishCommand (A := []) (keeps_refl _ _)) rfl) h

/-- R91: the search that a SEARCH_START asks for, if its fields are in range. -/
theorem ok_localSearch {c : CommandSlot} (fields : searchFieldsOk c) : SearchOk (.running (localSearch c)) := by
  obtain ⟨-, -, limit, limit'⟩ := fields
  have start := (c.byte Offset.start).isLt
  refine ⟨⟨Nat.le_refl _, Nat.le_of_lt start, limit, limit', Nat.zero_le _, List.Pairwise.nil, ?_, ?_⟩, start, limit⟩
  · exact fun h mem => absurd mem List.not_mem_nil
  · exact fun owned => absurd rfl owned

/-- R92: the search that a SEEK asks for. -/
theorem ok_trunkSearch (c : Fin 6) (start options cls : Byte) (pattern : List Byte) (mask : Half) :
    SearchOk (.running (trunkSearch c start options cls pattern mask)) := by
  have small := start.isLt
  refine ⟨⟨Nat.le_refl _, Nat.le_of_lt small, ?_, ?_, Nat.zero_le _, List.Pairwise.nil, ?_, ?_⟩, small, ?_⟩
  · exact (by decide : 1 ≤ 4)
  · exact (by decide : 4 ≤ 32)
  · exact fun h mem => absurd mem List.not_mem_nil
  · exact fun _ => ⟨rfl, rfl, rfl⟩
  · exact (by decide : 0 < 4)

theorem searchesOk_performSearchStart (c : CommandSlot) (s : State) (h : SearchesOk s) :
    SearchesOk (performSearchStart c s).state := by
  by_cases fields : searchFieldsOk c
  · cases lowest : s.idleSearch with
    | none => rwa [performSearchStart_of_full fields lowest]
    | some k =>
      rw [performSearchStart_of_idle fields lowest]
      exact searchesOk_setSearch h (ok_localSearch fields)
  · rwa [performSearchStart_of_bad_fields fields]

/-- What SEARCH_CANCEL does: nothing, or a RUNNING search of LOCAL is CANCELLED (R102). -/
theorem performSearchCancel_eq (c : CommandSlot) (s : State) : (performSearchCancel c s).state = s
    ∨ ∃ k r, s.searchContext k = .running r ∧ r.owner = .loc
      ∧ (performSearchCancel c s).state = s.setSearch k (.done .cancelled r) := by
  unfold performSearchCancel
  split
  · exact .inl rfl
  next k _ =>
    split
    · exact .inl rfl
    next r running =>
      split
      · exact .inl rfl
      next owner => exact .inr ⟨k, r, running, owner, rfl⟩
    · split <;> exact .inl rfl

/-- What SEARCH_RELEASE does: nothing, or a DONE search of LOCAL goes IDLE (R104). -/
theorem performSearchRelease_eq (c : CommandSlot) (s : State) : (performSearchRelease c s).state = s
    ∨ ∃ k code r, s.searchContext k = .done code r ∧ (performSearchRelease c s).state = s.setSearch k .idle := by
  unfold performSearchRelease
  split
  · exact .inl rfl
  next k _ =>
    split
    · exact .inl rfl
    · split <;> exact .inl rfl
    next code r done =>
      split
      · exact .inl rfl
      · exact .inr ⟨k, code, r, done, rfl⟩

theorem searchesOk_performSearchCancel (c : CommandSlot) (s : State) (h : SearchesOk s) :
    SearchesOk (performSearchCancel c s).state := by
  obtain same | ⟨k, r, running, owner, cancelled⟩ := performSearchCancel_eq c s
  · rwa [same]
  · rw [cancelled]
    have ok : SearchOk (.running r) := running ▸ h.context k
    exact searchesOk_setSearch (x := .done .cancelled r) h ⟨ok.1, owner⟩

theorem searchesOk_performSearchRelease (c : CommandSlot) (s : State) (h : SearchesOk s) :
    SearchesOk (performSearchRelease c s).state := by
  obtain same | ⟨k, code, r, -, released⟩ := performSearchRelease_eq c s
  · rwa [same]
  · rw [released]
    exact searchesOk_setSearch (x := .idle) h trivial

/-- What serving a SEEK does: a search context is claimed, or a reply is built (R130). -/
theorem serveSeek_eq {r : Option Request} {serve : Fin 6 → State → State} (selected : selectSeek r = some serve)
    (c : Fin 6) (u : State) :
    (∃ k start options cls pattern mask, u.idleSearch = some k
        ∧ serve c u = claimSearch c k (trunkSearch c start options cls pattern mask) u)
      ∨ ∃ reply, serve c u = buildReply c reply u := by
  unfold selectSeek at selected
  split at selected
  next start options cls pattern mask =>
    cases selected
    unfold serveSeek
    split
    · split
      next k lowest => exact .inl ⟨k, start, options, cls, pattern, mask, lowest, rfl⟩
      · exact .inr ⟨_, rfl⟩
    · exact .inr ⟨_, rfl⟩
  · cases selected

theorem searchesOk_seek (h : SearchesOk s) : SearchesOk (trunkGrant selectSeek s) := by
  unfold trunkGrant
  split
  · exact h
  next c _ =>
    split
    · exact h
    next serve selected =>
      have taken : SearchesOk (takeRequest s) := kept_of_keeps searchesOk_congr keeps_takeRequest rfl h
      obtain ⟨k, start, options, cls, pattern, mask, -, claimed⟩ | ⟨reply, answered⟩ :=
        serveSeek_eq selected c (takeRequest s)
      · rw [claimed]
        have ok := ok_trunkSearch c start options cls pattern mask
        exact searchesOk_of_search (searchesOk_setSearch (k := k) taken ok) rfl
      · rw [answered]
        exact searchesOk_of_search taken rfl

theorem searchesOk_hostCleared (h : SearchesOk s) : SearchesOk (hostCleared s) :=
  searchesOk_mapAll (s := s) idleLocalSearch_idles rfl h

theorem searchesOk_hostResetEffect (h : SearchesOk s) : SearchesOk (hostResetEffect s) := by
  have answered : SearchesOk (answerDeferred s) := kept_of_keeps searchesOk_congr keeps_answerDeferred rfl h
  rw [hostResetEffect_eq]
  exact searchesOk_hostCleared answered

theorem searchesOk_hostReset (h : SearchesOk (settle s)) : SearchesOk (after .hostReset s) := by
  change SearchesOk (if _ then _ else _)
  split
  · exact h
  · exact searchesOk_hostResetEffect h

theorem searchesOk_settleFault (h : SearchesOk s) : SearchesOk (settleFault s) := by
  unfold settleFault
  split
  · exact searchesOk_mapAll idleTrunkSearch_idles rfl h
  · exact h

theorem searchesOk_fullReset (s : State) : SearchesOk (after .fullReset s) := by
  refine ⟨fun k => ?_⟩
  have idle : (after .fullReset s).searchContext k = .idle := Vector.getElem_replicate _
  rw [idle]
  trivial

theorem searchesOk_kept : KeptByRows SearchesOk where
  queue _ _ h := searchesOk_of_search h rfl
  reset := searchesOk_fullReset
  fault _ := searchesOk_settleFault
  release _ := kept_of_keeps searchesOk_congr keeps_settleRelease rfl
  tenMs _ := kept_of_keeps searchesOk_congr keeps_settleTenMs rfl
  expiry _ := kept_of_keeps searchesOk_congr keeps_settleExpiry rfl
  second _ := kept_of_keeps searchesOk_congr keeps_settleSecond rfl
  period _ := kept_of_keeps searchesOk_congr keeps_idlePeriod rfl
  row i other s h := by
    cases i with
    | fullReset | trunkFault | faultRelease | tenMsTick | deadlineExpiry | secondTick => exact absurd (by decide) other
    | hostReset => exact searchesOk_hostReset h
    | searchStart => exact searchesOk_commandGrant (perform := performSearchStart) searchesOk_performSearchStart h
    | searchCancel => exact searchesOk_commandGrant (perform := performSearchCancel) searchesOk_performSearchCancel h
    | searchRelease => exact searchesOk_commandGrant (perform := performSearchRelease) searchesOk_performSearchRelease h
    | seek => exact searchesOk_seek h
    | searchStep => exact searchesOk_searchGrant (s := settle s) h
    | _ => exact kept_of_untouched searchesOk_congr _ rfl h

/-- Settles O59: the rows that touch the search contexts leave each of them sound. -/
theorem everyStepKeepsTheSearchesSound : Obligations.EveryStepKeepsTheSearchesSound :=
  searchesOk_kept.step_of_iff searchInv_iff

end Sys2Proof.Proofs
end

section
/-! PROOFS. Every step keeps the host side sound: the wake record, the waits in DOZE, the post-order queue, the pins
(R180, R174, R150, R147). -/

namespace Sys2Proof.Proofs

open Sys2Proof.Machine Sys2Proof.Laws

variable {s t : State} {n : Fin 4}

/-! ## The wake record -/

theorem wakeFlagInv_congr (s t : State) (same : ∀ a ∈ [Aspect.wake], a.kept s t) : wakeFlagInv s → wakeFlagInv t :=
  same .wake (by simp)

theorem wakeFlagInv_kept : KeptByRows wakeFlagInv where
  queue _ _ h := h
  reset s := by
    have clear : (after .fullReset s).flag .wake = false := by
      change Notify.reset.flags.getLsbD Flag.wake.bit = false
      decide
    exact clear
  fault _ := kept_of_keeps wakeFlagInv_congr keeps_settleFault rfl
  release _ := kept_of_keeps wakeFlagInv_congr keeps_settleRelease rfl
  tenMs _ := kept_of_keeps wakeFlagInv_congr keeps_settleTenMs rfl
  expiry _ := kept_of_keeps wakeFlagInv_congr keeps_settleExpiry rfl
  second _ := kept_of_keeps wakeFlagInv_congr keeps_settleSecond rfl
  period _ := kept_of_keeps wakeFlagInv_congr keeps_idlePeriod rfl
  row i other s h := by
    cases i with
    | fullReset | trunkFault | faultRelease | tenMsTick | deadlineExpiry | secondTick => exact absurd (by decide) other
    | _ => exact kept_of_untouched wakeFlagInv_congr _ rfl h

/-! ## Waits in DOZE -/

theorem dozeInv_congr (s t : State) (same : ∀ a ∈ [Aspect.host, .waits], a.kept s t) (h : dozeInv s) : dozeInv t := by
  have host : t.doze.host = s.doze.host := same .host (by simp)
  have waits : CalmFrom s.trunk.contexts t.trunk.contexts := same .waits (by simp)
  exact fun doze c awaits => h (host ▸ doze) c ((waits c).1 awaits)

theorem dozeInv_of_awake (awake : t.doze.host = .awake) : dozeInv t := fun doze => by rw [awake] at doze; cases doze

/-- R137: once the waits have been answered, no context waits. -/
theorem state_answerDeferred (s : State) (c : Fin 6) : ((answerDeferred s).context c).state ≠ .awaitingHost := by
  obtain ⟨contexts, -, -⟩ := endWaits_spec (s := s) .deferred (fun t => decide (t.state = .awaitingHost))
  rw [answerDeferred, contexts c]
  split
  · simp [waitEnded]
  next other => simpa using other

theorem dozeInv_of_noWaits (noWaits : ∀ c, (s.context c).state ≠ .awaitingHost) (trunk : t.trunk = s.trunk) : dozeInv t := by
  intro _ c
  rw [State.context, trunk]
  exact noWaits c

theorem trunk_storePower (power : HostState) (v : Byte) (s : State) : (storePower power v s).trunk = s.trunk := rfl

theorem trunk_hostCleared (s : State) : (hostCleared s).trunk = s.trunk := rfl

theorem dozeInv_writeDoze (v : Byte) (s : State) : dozeInv (writeDoze v s) :=
  dozeInv_of_noWaits (state_answerDeferred s) (trunk_storePower _ _ _)

theorem dozeInv_hostResetEffect (s : State) : dozeInv (hostResetEffect s) := by
  rw [hostResetEffect_eq]
  exact dozeInv_of_noWaits (state_answerDeferred s) (trunk_hostCleared _)

/-- R133: in DOZE, a SEEK end leaves its context with a reply, not waiting. -/
theorem keeps_seekEnd_of_doze (c : Fin 6) (results : List Handle) (cursor : Nat) (doze : s.doze.host = .doze) :
    keeps [.trunk] s (seekEnd c results cursor s) := by
  unfold seekEnd
  extract_lets x items stored
  have keptStored : keeps [.trunk] s stored := keeps_setContext ⟨id, fun d hd => ⟨d, hd, Nat.le_refl d⟩⟩
  have host : stored.doze.host = .doze := doze
  refine keeps_trans keptStored ?_
  rw [host]
  split
  · exact keeps_trans (keeps_buildReply _ _) (keeps_mono (keeps_seekWake _ _ _) (by simp))
  · exact keeps_buildReply _ _

theorem dozeInv_endSearch (k : Fin 4) (r : Search) (e : Option EndCode) (h : dozeInv s) : dozeInv (endSearch k r e s) := by
  cases host : s.doze.host with
  | awake =>
    have kept : (endSearch k r e s).doze.host = s.doze.host := keeps_endSearch k r e .host (by decide)
    exact dozeInv_of_awake (kept.trans host)
  | doze =>
    unfold endSearch
    split
    · exact kept_of_keeps dozeInv_congr (keeps_setSearch k _) rfl h
    · split
      · exact kept_of_keeps dozeInv_congr (keeps_trans (keeps_setSearch k _) (keeps_mono (keeps_setFlag (by decide)) (by simp)))
          rfl h
      · have idle : dozeInv (s.setSearch k .idle) := kept_of_keeps dozeInv_congr (keeps_setSearch k _) rfl h
        exact kept_of_keeps dozeInv_congr (keeps_seekEnd_of_doze _ _ _ host) rfl idle

theorem dozeInv_searchGrant (h : dozeInv s) : dozeInv (searchGrant s) := by
  obtain same | ⟨k, r, -, served⟩ := searchGrant_eq s
  · rwa [same]
  · rw [served]
    exact dozeInv_endSearch _ _ _ (kept_of_keeps dozeInv_congr (keeps_setArb _) rfl h)

/-- A write to the port takes place, or the port is closed. -/
theorem kept_portWrite {I : State → Prop} {write : State → State} (h : I s) (kept : I s → I (write s)) :
    I (portWrite write s) := by
  unfold portWrite
  split
  · exact kept h
  · exact h

/-- A host reset takes place, or HRST is low already. -/
theorem kept_hostReset {I : State → Prop} (h : I (settle s)) (kept : I (settle s) → I (hostResetEffect (settle s))) :
    I (after .hostReset s) := by
  change I (if _ then _ else _)
  split
  · exact h
  · exact kept h

theorem dozeInv_kept : KeptByRows dozeInv where
  queue _ _ h := h
  reset _ := dozeInv_of_noWaits (s := State.reset) (fun c => by revert c; decide) rfl
  fault _ := kept_of_keeps dozeInv_congr keeps_settleFault rfl
  release _ := kept_of_keeps dozeInv_congr keeps_settleRelease rfl
  tenMs _ := kept_of_keeps dozeInv_congr keeps_settleTenMs rfl
  expiry _ := kept_of_keeps dozeInv_congr keeps_settleExpiry rfl
  second _ := kept_of_keeps dozeInv_congr keeps_settleSecond rfl
  period _ := kept_of_keeps dozeInv_congr keeps_idlePeriod rfl
  row i other s h := by
    cases i with
    | fullReset | trunkFault | faultRelease | tenMsTick | deadlineExpiry | secondTick => exact absurd (by decide) other
    | hostReset => exact kept_hostReset h fun _ => dozeInv_hostResetEffect _
    | powerDoze v => exact kept_portWrite (write := writeDoze v) h fun _ => dozeInv_writeDoze v _
    | powerAwake v => exact kept_portWrite (write := storePower .awake v) h fun _ => dozeInv_of_awake rfl
    | searchStep => exact dozeInv_searchGrant h
    | _ => exact kept_of_untouched dozeInv_congr _ rfl h

/-! ## The post-order queue -/

theorem postOrderInv_congr (s t : State) (same : ∀ a ∈ [Aspect.slots, .postOrder], a.kept s t) (h : postOrderInv s) :
    postOrderInv t := by
  have slots : t.port.slots = s.port.slots := same .slots (by simp)
  have order : t.port.postOrder = s.port.postOrder := same .postOrder (by simp)
  simpa only [postOrderInv, State.commandSlot, slots, order] using h

/-- A slot that is POSTED no longer has left the queue. -/
theorem postOrderInv_of_left (h : postOrderInv s) (nodup : t.port.postOrder.Nodup)
    (order : ∀ m, m ∈ t.port.postOrder ↔ m ∈ s.port.postOrder ∧ m ≠ n) (left : (t.commandSlot n).state ≠ .posted)
    (others : ∀ m, m ≠ n → t.commandSlot m = s.commandSlot m) : postOrderInv t := by
  refine ⟨nodup, fun m => ?_⟩
  rw [order]
  by_cases same : m = n
  · simp [same, left]
  · rw [others m same, h.2 m]
    simp [same]

/-- R151: the slot of a grant is DONE; the others are as performing the command left them. -/
theorem commandSlot_finishCommand (n m : Fin 4) (r : Completion) :
    (finishCommand n r).commandSlot m = if n = m then
      { ((r.state.commandSlot n).write r.outputs).setByte Offset.result r.code.toByte with state := .done }
    else r.state.commandSlot m := by
  rw [← commandSlot_setCommandSlot]
  rfl

/-- A Command grant whose command leaves slots and queue alone takes the head from the queue and leaves it DONE. -/
theorem postOrderInv_commandGrant {A : List Aspect} {accepts : Byte → Bool} {perform : CommandSlot → State → Completion}
    (keptBy : ∀ c u, keeps A u (perform c u).state) (slots : .slots ∉ A) (order : .postOrder ∉ A) (h : postOrderInv s) :
    postOrderInv (commandGrant accepts perform s) := by
  unfold commandGrant
  split
  · exact h
  next n head =>
    split
    · have kept := keptBy (s.commandSlot n) (takeCommand s)
      generalize perform (s.commandSlot n) (takeCommand s) = r at kept
      obtain ⟨rest, queue⟩ : ∃ rest, s.port.postOrder = n :: rest := ⟨_, postOrder_of_commandHead s head⟩
      have left : (finishCommand n r).port.postOrder = rest := by
        have same : r.state.port.postOrder = s.port.postOrder.tail := kept .postOrder order
        rw [queue] at same
        exact same
      have nodup := h.1
      rw [queue, List.nodup_cons] at nodup
      refine postOrderInv_of_left (n := n) h (left ▸ nodup.2) (fun m => ?_) ?_ (fun m other => ?_)
      · rw [left, queue, List.mem_cons]
        constructor
        · exact fun mem => ⟨.inr mem, fun same => nodup.1 (same ▸ mem)⟩
        · exact fun ⟨mem, other⟩ => mem.resolve_left other
      · simp [commandSlot_finishCommand]
      · have same : r.state.port.slots = s.port.slots := kept .slots slots
        rw [commandSlot_finishCommand, if_neg (Ne.symm other), State.commandSlot, same]
        rfl
    · exact h

theorem commandSlot_setPort (m : Fin 4) (p : HostPort) : (s.setPort p).commandSlot m = p.slots[m] := rfl

theorem postOrderInv_postSlot (h : postOrderInv s) : postOrderInv (postSlot n s) := by
  obtain ⟨nodup, posted⟩ := h
  unfold postSlot
  split
  next empty =>
    have fresh : n ∉ s.port.postOrder := fun mem => by rw [(posted n).mp mem] at empty; cases empty
    refine ⟨nodup_append_singleton nodup fresh, fun m => ?_⟩
    · rw [commandSlot_setPort, vector_get_set]
      change m ∈ s.port.postOrder ++ [n] ↔ _
      rw [List.mem_append, List.mem_singleton]
      split
      next same => simp [same]
      next other =>
        rw [posted m]
        simp [Ne.symm other, State.commandSlot]
  · exact ⟨nodup, posted⟩

theorem commandSlot_abortSlot (posted : (s.commandSlot n).state = .posted) (m : Fin 4) :
    (abortSlot n s).commandSlot m = if n = m then
      { (s.commandSlot n).setByte Offset.result ResultCode.aborted.toByte with state := .done }
    else s.commandSlot m := by
  rw [abortSlot, if_pos posted]
  exact vector_get_set _ _ _ _

theorem postOrder_abortSlot (posted : (s.commandSlot n).state = .posted) :
    (abortSlot n s).port.postOrder = s.port.postOrder.filter fun k => decide (k ≠ n) := by
  rw [abortSlot, if_pos posted]
  rfl

theorem postOrderInv_abortSlot (h : postOrderInv s) : postOrderInv (abortSlot n s) := by
  by_cases posted : (s.commandSlot n).state = .posted
  · refine postOrderInv_of_left (n := n) h ?_ (fun m => ?_) ?_ (fun m other => ?_)
    · rw [postOrder_abortSlot posted]
      exact h.1.filter _
    · simp [postOrder_abortSlot posted]
    · simp [commandSlot_abortSlot posted]
    · rw [commandSlot_abortSlot posted, if_neg (Ne.symm other)]
  · rwa [abortSlot, if_neg posted]

/-- A slot that was not POSTED and is not is not of the queue's concern. -/
theorem postOrderInv_setCommandSlot {x : CommandSlot} (h : postOrderInv s) (before : (s.commandSlot n).state ≠ .posted)
    (now : x.state ≠ .posted) : postOrderInv (s.setCommandSlot n x) := by
  refine ⟨h.1, fun m => ?_⟩
  rw [commandSlot_setCommandSlot]
  change m ∈ s.port.postOrder ↔ _
  rw [h.2 m]
  split
  next same => simp [← same, before, now]
  · rfl

theorem postOrderInv_releaseSlot (h : postOrderInv s) : postOrderInv (releaseSlot n s) := by
  unfold releaseSlot
  split
  next done => exact postOrderInv_setCommandSlot h (by simp [done]) (by simp [CommandSlot.cleared])
  · exact h

theorem postOrderInv_writeByte (address value : Byte) (h : postOrderInv s) : postOrderInv (writeByte address value s) := by
  unfold writeByte
  split
  · split
    next empty => exact postOrderInv_setCommandSlot h (by simp [empty.2]) (by simp [CommandSlot.setByte, empty.2])
    · exact h
  · exact h

/-- Every slot is EMPTY and the queue is empty. -/
theorem postOrderInv_cleared (slots : t.port.slots = HostPort.reset.slots) (order : t.port.postOrder = []) :
    postOrderInv t := by
  have empty : ∀ m, (t.commandSlot m).state = .empty := by
    intro m
    rw [State.commandSlot, slots]
    revert m
    decide
  refine ⟨order ▸ List.nodup_nil, fun m => ?_⟩
  rw [order, empty m]
  simp

theorem port_hostCleared (s : State) : (hostCleared s).port = { HostPort.reset with hrstLow := true } := rfl

theorem postOrderInv_hostResetEffect (s : State) : postOrderInv (hostResetEffect s) := by
  rw [hostResetEffect_eq]
  exact postOrderInv_cleared (by rw [port_hostCleared]) (by rw [port_hostCleared]; rfl)

theorem postOrderInv_kept : KeptByRows postOrderInv where
  queue _ _ h := h
  reset _ := postOrderInv_cleared rfl rfl
  fault _ := kept_of_keeps postOrderInv_congr keeps_settleFault rfl
  release _ := kept_of_keeps postOrderInv_congr keeps_settleRelease rfl
  tenMs _ := kept_of_keeps postOrderInv_congr keeps_settleTenMs rfl
  expiry _ := kept_of_keeps postOrderInv_congr keeps_settleExpiry rfl
  second _ := kept_of_keeps postOrderInv_congr keeps_settleSecond rfl
  period _ := kept_of_keeps postOrderInv_congr keeps_idlePeriod rfl
  row i other s h := by
    cases i with
    | fullReset | trunkFault | faultRelease | tenMsTick | deadlineExpiry | secondTick => exact absurd (by decide) other
    | hostReset => exact kept_hostReset h fun _ => postOrderInv_hostResetEffect _
    | create => exact postOrderInv_commandGrant keeps_performCreate (by decide) (by decide) h
    | amend => exact postOrderInv_commandGrant keeps_performAmend (by decide) (by decide) h
    | putAttr => exact postOrderInv_commandGrant keeps_performPutAttr (by decide) (by decide) h
    | dropAttr => exact postOrderInv_commandGrant keeps_performDropAttr (by decide) (by decide) h
    | retire => exact postOrderInv_commandGrant keeps_performRetire (by decide) (by decide) h
    | read => exact postOrderInv_commandGrant keeps_performRead (by decide) (by decide) h
    | readAttr => exact postOrderInv_commandGrant keeps_performReadAttr (by decide) (by decide) h
    | lock => exact postOrderInv_commandGrant keeps_performLock (by decide) (by decide) h
    | unlock => exact postOrderInv_commandGrant keeps_performUnlock (by decide) (by decide) h
    | searchStart => exact postOrderInv_commandGrant keeps_performSearchStart (by decide) (by decide) h
    | searchCancel => exact postOrderInv_commandGrant keeps_performSearchCancel (by decide) (by decide) h
    | results => exact postOrderInv_commandGrant keeps_performResults (by decide) (by decide) h
    | searchRelease => exact postOrderInv_commandGrant keeps_performSearchRelease (by decide) (by decide) h
    | collect => exact postOrderInv_commandGrant keeps_performCollect (by decide) (by decide) h
    | readForward => exact postOrderInv_commandGrant keeps_performReadForward (by decide) (by decide) h
    | answer => exact postOrderInv_commandGrant keeps_performAnswer (by decide) (by decide) h
    | purge => exact postOrderInv_commandGrant keeps_performPurge (by decide) (by decide) h
    | setParam => exact postOrderInv_commandGrant keeps_performSetParam (by decide) (by decide) h
    | unknownCommand => exact postOrderInv_commandGrant (A := []) (fun _ u => keeps_refl _ u) (by decide) (by decide) h
    | post n => exact kept_portWrite (write := postSlot n) h postOrderInv_postSlot
    | release n => exact kept_portWrite (write := releaseSlot n) h postOrderInv_releaseSlot
    | abort n => exact kept_portWrite (write := abortSlot n) h postOrderInv_abortSlot
    | windowWrite a v => exact kept_portWrite (write := writeByte a v) h (postOrderInv_writeByte a v)
    | _ => exact kept_of_untouched postOrderInv_congr _ rfl h

/-! ## The pins -/

/-- A port that ignores HSEL ignored it before, and no transaction has begun. -/
theorem pinsInv_of_closed (h : pinsInv s) (closed : t.portListens = false → s.portListens = false)
    (transaction : t.port.transaction = s.port.transaction) : pinsInv t :=
  fun ignores => transaction.trans (h (closed ignores))

theorem pinsInv_of_idle (idle : t.port.transaction = none) : pinsInv t := fun _ => idle

theorem pinsInv_congr (s t : State) (same : ∀ a ∈ [Aspect.hrst, .transaction, .loader], a.kept s t) (h : pinsInv s) :
    pinsInv t := by
  have hrst : t.port.hrstLow = s.port.hrstLow := same .hrst (by simp)
  have transaction : t.port.transaction = s.port.transaction := same .transaction (by simp)
  have loader : t.loader = s.loader := same .loader (by simp)
  have listens : t.portListens = s.portListens := by simp only [State.portListens, State.resetLow, hrst, loader]
  exact pinsInv_of_closed h (fun ignores => listens ▸ ignores) transaction

/-- The port ignores HSEL exactly while RESET or HRST is low. -/
theorem portListens_eq_false_iff : s.portListens = false ↔ s.loader.phase = .held ∨ s.port.hrstLow = true := by
  cases low : s.port.hrstLow <;> simp [State.portListens, State.resetLow, low]

/-- The loader's steps never bring RESET low, and leave the pins alone. -/
theorem pinsInv_of_loading {A : List Aspect} (h : pinsInv s) (k : keeps A s t)
    (untouched : apart [.hrst, .transaction] A = true) (reset : t.loader.phase = .held → s.loader.phase = .held) :
    pinsInv t := by
  have kept (a : Aspect) (mem : a ∈ [Aspect.hrst, .transaction]) : a.kept s t :=
    k a (by simpa using List.all_eq_true.mp untouched a mem)
  have hrst : t.port.hrstLow = s.port.hrstLow := kept .hrst (by simp)
  refine pinsInv_of_closed h (fun ignores => ?_) (kept .transaction (by simp))
  rw [portListens_eq_false_iff] at ignores ⊢
  exact ignores.imp reset hrst.symm.trans

theorem held_of_loadStart (held : (after .loadStart s).loader.phase = .held) : (settle s).loader.phase = .held := by
  simp only [after, exec, execLoadStart] at held
  generalize settle s = u at held
  split at held
  next before => exact before
  · exact held

theorem readPhase_ne_held (line : List ConfigEvent) : readPhase line ≠ .held := by
  unfold readPhase
  split
  · exact nofun
  · split <;> exact nofun

theorem held_of_configRead {a b c d : Bool} {bytes : List Byte}
    (held : (after (.configRead a b c d bytes) s).loader.phase = .held) : (settle s).loader.phase = .held := by
  simp only [after, exec, execConfigRead] at held
  generalize settle s = u at held
  split at held
  · exact absurd held (readPhase_ne_held _)
  · exact held

theorem held_of_presetCreate (held : (after .presetCreate s).loader.phase = .held) : (settle s).loader.phase = .held := by
  simp only [after, exec, execPresetCreate] at held
  generalize settle s = u at held
  split at held
  · split at held <;> cases held
  all_goals exact held

theorem held_of_loadEnd (held : (after .loadEnd s).loader.phase = .held) : (settle s).loader.phase = .held := by
  simp only [after, exec, execLoadEnd] at held
  generalize settle s = u at held
  split at held
  · cases held
  all_goals exact held

theorem pinsInv_hostResetEffect (s : State) : pinsInv (hostResetEffect s) := by
  rw [hostResetEffect_eq]
  exact pinsInv_of_idle (by rw [port_hostCleared]; rfl)

/-- R147: while RESET is low the port still ignores HSEL when HRST rises. -/
theorem pinsInv_releaseHrst (h : pinsInv s) : pinsInv (s.setPort { s.port with hrstLow := false }) := by
  refine pinsInv_of_closed h (fun ignores => ?_) rfl
  rw [portListens_eq_false_iff] at ignores ⊢
  exact .inl (ignores.resolve_right (by simp [State.setPort]))

theorem pinsInv_kept : KeptByRows pinsInv where
  queue _ _ h := h
  reset _ := pinsInv_of_idle rfl
  fault _ := kept_of_keeps pinsInv_congr keeps_settleFault rfl
  release _ := kept_of_keeps pinsInv_congr keeps_settleRelease rfl
  tenMs _ := kept_of_keeps pinsInv_congr keeps_settleTenMs rfl
  expiry _ := kept_of_keeps pinsInv_congr keeps_settleExpiry rfl
  second _ := kept_of_keeps pinsInv_congr keeps_settleSecond rfl
  period _ := kept_of_keeps pinsInv_congr keeps_idlePeriod rfl
  row i other s h := by
    cases i with
    | fullReset | trunkFault | faultRelease | tenMsTick | deadlineExpiry | secondTick => exact absurd (by decide) other
    | hostReset => exact kept_hostReset h fun _ => pinsInv_hostResetEffect _
    | hostResetRelease => exact pinsInv_releaseHrst h
    | loadStart => exact pinsInv_of_loading h keeps_loadStart rfl held_of_loadStart
    | configRead a b c d bytes => exact pinsInv_of_loading h (keeps_configRead a b c d bytes) rfl held_of_configRead
    | presetCreate => exact pinsInv_of_loading h keeps_presetCreate rfl held_of_presetCreate
    | loadEnd => exact pinsInv_of_loading h keeps_loadEnd rfl held_of_loadEnd
    | _ => exact kept_of_untouched pinsInv_congr _ rfl h

/-! ## The edges of HSEL and HSCK -/

/-- What an edge of HSEL or HSCK does: the transaction, and what it adds to the queue; a transaction begins only at a port
that listens. -/
theorem edge_eq (b : Bool) (edge : t ∈ [hselFall s, hselRise s, hsckRise b s, hsckFall s]) :
    ∃ x p, t = { s.setTransaction x with pending := p } ∧ (s.port.transaction = none → s.portListens = false → x = none) := by
  simp only [List.mem_cons, List.not_mem_nil, or_false] at edge
  obtain rfl | rfl | rfl | rfl := edge
  · unfold hselFall
    split
    next begins =>
      exact ⟨some Transaction.begun, s.pending, rfl, fun _ closed => by rw [begins.1] at closed; cases closed⟩
    · exact ⟨s.port.transaction, s.pending, rfl, fun idle _ => idle⟩
  · exact ⟨none, s.pending, rfl, fun _ _ => rfl⟩
  · by_cases idle : s.port.transaction = none
    · refine ⟨none, s.pending, ?_, fun _ _ => rfl⟩
      rw [hsckRise, idle]
      simp [State.setTransaction, State.setPort, ← idle]
    · obtain ⟨x, more, moved⟩ := hsckRise_eq (s := s) b
      exact ⟨x, _, moved, fun none => absurd none idle⟩
  · by_cases idle : s.port.transaction = none
    · refine ⟨none, s.pending, ?_, fun _ _ => rfl⟩
      rw [hsckFall, idle]
      simp [State.setTransaction, State.setPort, ← idle]
    · obtain ⟨x, moved⟩ := hsckFall_eq (s := s)
      exact ⟨x, s.pending, moved, fun none => absurd none idle⟩

/-- Settles O56: the wake record, the waits in DOZE, the post-order queue and the pins are each kept by every row; an edge of
HSEL or HSCK changes the transaction and the queue of commands alone, and begins a transaction only at an open port. -/
theorem everyStepKeepsTheHostSideSound : Obligations.EveryStepKeepsTheHostSideSound := by
  intro s wake doze order pins
  refine ⟨?_, fun b t edge => ?_⟩
  · have kept := keptByRows_and wakeFlagInv_kept (keptByRows_and dozeInv_kept (keptByRows_and postOrderInv_kept pinsInv_kept))
    exact kept.step s ⟨wake, doze, order, pins⟩
  · obtain ⟨x, p, rfl, begins⟩ := edge_eq b edge
    exact ⟨wake, doze, order, fun ignores => begins (pins ignores) ignores⟩

end Sys2Proof.Proofs
end

section
/-! PROOFS. Every step keeps the law of the trunk side (R86, R109, R116, R118, R126, R127). A context that a row is moving is
off the board for a moment: no queue, no search and no frame is its own. -/

namespace Sys2Proof.Proofs

open Sys2Proof.Machine Sys2Proof.Laws

variable {s t u : State} {c d : Fin 6} {k : Fin 4} {out : Option (Fin 6)} {x : TrunkContext}

/-! ## What belongs to a trunk context -/

/-- A search runs for the trunk context. -/
def SearchContext.runsFor (x : SearchContext) (c : Fin 6) : Prop := ∃ r, x = .running r ∧ r.owner = .trunk c

/-- The frame being received claimed the context. -/
def Link.receivesInto (l : Link) (c : Fin 6) : Prop := ∃ part, l.receiver = .frame c part

/-- The frame being sent is the reply of the context. -/
def Link.sendsFrom (l : Link) (c : Fin 6) : Prop := ∃ x, l.transmitter = some x ∧ x.context = c

/-- The queues, the searches and the link agree with the state of the context. -/
structure Placed (s : State) (c : Fin 6) : Prop where
  received : c ∈ s.trunk.received ↔ (s.context c).state = .received
  ready : c ∈ s.trunk.ready ↔ (s.context c).state = .replyReady
  serving : ∀ k, ((s.context c).state = .serving ∧ (s.context c).linked = some k)
    ↔ SearchContext.runsFor (s.searchContext k) c
  linked : (s.context c).state = .serving → (s.context c).linked ≠ none
  receiving : (s.context c).state = .receiving ↔ Link.receivesInto s.link c
  sending : (s.context c).state = .sending ↔ Link.sendsFrom s.link c

/-- No queue holds the context, no search runs for it, and no frame is its own. -/
structure Absent (s : State) (c : Fin 6) : Prop where
  received : c ∉ s.trunk.received
  ready : c ∉ s.trunk.ready
  serving : ∀ k, ¬ SearchContext.runsFor (s.searchContext k) c
  receiving : ¬ Link.receivesInto s.link c
  sending : ¬ Link.sendsFrom s.link c

/-- The link acts only while it is BUSY, and does one thing at a time. -/
structure LinkOk (l : Link) : Prop where
  still : l.state ≠ .busy → l.receiver = .waiting ∧ l.transmitter = none
  turns : l.transmitter ≠ none → ∀ c part, l.receiver ≠ .frame c part

/-- The law of the trunk side with at most one context off the board. -/
structure Board (out : Option (Fin 6)) (s : State) : Prop where
  placed : ∀ c, out ≠ some c → Placed s c
  absent : ∀ c, out = some c → Absent s c
  received : s.trunk.received.Nodup
  ready : s.trunk.ready.Nodup
  done : ∀ k code r, s.searchContext k = .done code r → r.owner = .loc
  link : LinkOk s.link

theorem trunkInv_iff (s : State) : trunkInv s ↔ Board none s := by
  constructor
  · intro law
    obtain ⟨⟨received, inReceived, ready, inReady⟩, ⟨serving, linked, done⟩, receiving, sending, still, turns⟩ := law
    refine ⟨fun c _ => ?_, nofun, received, ready, done, still, turns⟩
    exact ⟨inReceived c, inReady c, serving c, linked c, receiving c, sending c⟩
  · intro board
    have placed (c : Fin 6) : Placed s c := board.placed c nofun
    refine ⟨⟨board.received, fun c => (placed c).received, board.ready, fun c => (placed c).ready⟩, ?_, ?_⟩
    · exact ⟨fun c => (placed c).serving, fun c => (placed c).linked, board.done⟩
    · exact ⟨fun c => (placed c).receiving, fun c => (placed c).sending, board.link.still, board.link.turns⟩

/-! ## A context that is off the board, or comes back to it -/

/-- A context that no queue, search or frame has to do with is in a state that says so, and is as good as off the board. -/
theorem absent_of_placed (h : Placed s c)
    (quiet : (s.context c).state = .idle ∨ (s.context c).state = .awaitingHost) : Absent s c := by
  obtain ⟨received, ready, serving, -, receiving, sending⟩ := h
  constructor
  · rw [received]; rcases quiet with e | e <;> simp [e]
  · rw [ready]; rcases quiet with e | e <;> simp [e]
  · intro k; rw [← serving]; rcases quiet with e | e <;> simp [e]
  · rw [← receiving]; rcases quiet with e | e <;> simp [e]
  · rw [← sending]; rcases quiet with e | e <;> simp [e]

theorem placed_of_absent (h : Absent s c)
    (quiet : (s.context c).state = .idle ∨ (s.context c).state = .awaitingHost) : Placed s c := by
  obtain ⟨received, ready, serving, receiving, sending⟩ := h
  constructor
  · rcases quiet with e | e <;> simp [e, received]
  · rcases quiet with e | e <;> simp [e, ready]
  · intro k; rcases quiet with e | e <;> simp [e, serving k]
  · rcases quiet with e | e <;> simp [e]
  · rcases quiet with e | e <;> simp [e, receiving]
  · rcases quiet with e | e <;> simp [e, sending]

/-- For the other contexts nothing changes. -/
structure SameFor (s t : State) (d : Fin 6) : Prop where
  state : (t.context d).state = (s.context d).state
  linked : (t.context d).linked = (s.context d).linked
  received : d ∈ t.trunk.received ↔ d ∈ s.trunk.received
  ready : d ∈ t.trunk.ready ↔ d ∈ s.trunk.ready
  serving : ∀ k, SearchContext.runsFor (t.searchContext k) d ↔ SearchContext.runsFor (s.searchContext k) d
  receiving : Link.receivesInto t.link d ↔ Link.receivesInto s.link d
  sending : Link.sendsFrom t.link d ↔ Link.sendsFrom s.link d

theorem placed_of_same (h : Placed s d) (same : SameFor s t d) : Placed t d := by
  obtain ⟨state, linked, received, ready, serving, receiving, sending⟩ := same
  constructor
  · rw [received, state]; exact h.received
  · rw [ready, state]; exact h.ready
  · intro k; rw [serving, state, linked]; exact h.serving k
  · rw [state, linked]; exact h.linked
  · rw [receiving, state]; exact h.receiving
  · rw [sending, state]; exact h.sending

/-- The same, where the blocks say it. -/
theorem sameFor_of_blocks (context : t.context d = s.context d)
    (received : d ∈ t.trunk.received ↔ d ∈ s.trunk.received) (ready : d ∈ t.trunk.ready ↔ d ∈ s.trunk.ready)
    (search : t.search = s.search) (link : t.link = s.link) : SameFor s t d where
  state := congrArg TrunkContext.state context
  linked := congrArg TrunkContext.linked context
  received := received
  ready := ready
  serving k := by simp only [State.searchContext, search]
  receiving := by rw [link]
  sending := by rw [link]

/-- One context moves, from the board or from beside it, and is on the board afterwards. -/
theorem board_of_move (before : ∀ d, d ≠ c → Placed s d) (others : ∀ d, d ≠ c → SameFor s t d) (here : Placed t c)
    (received : t.trunk.received.Nodup) (ready : t.trunk.ready.Nodup)
    (done : ∀ k code r, t.searchContext k = .done code r → r.owner = .loc) (link : LinkOk t.link) : Board none t where
  placed d _ := by
    by_cases same : d = c
    · exact same ▸ here
    · exact placed_of_same (before d same) (others d same)
  absent := nofun
  received := received
  ready := ready
  done := done
  link := link

/-- A context is taken off the board. -/
theorem Board.lift (h : Board none s) (others : ∀ d, d ≠ c → SameFor s t d) (gone : Absent t c)
    (received : t.trunk.received.Nodup) (ready : t.trunk.ready.Nodup)
    (done : ∀ k code r, t.searchContext k = .done code r → r.owner = .loc) (link : LinkOk t.link) : Board (some c) t where
  placed d other := placed_of_same (h.placed d nofun) (others d fun same => other (same ▸ rfl))
  absent d same := by cases same; exact gone
  received := received
  ready := ready
  done := done
  link := link

theorem Board.others (h : Board (some c) s) (d : Fin 6) (other : d ≠ c) : Placed s d :=
  h.placed d fun same => other (Option.some.inj same).symm

/-- A context that waits, or is IDLE, is as good as off the board. -/
theorem Board.lift_quiet (h : Board none s)
    (quiet : (s.context c).state = .idle ∨ (s.context c).state = .awaitingHost) : Board (some c) s :=
  h.lift (fun _ _ => sameFor_of_blocks rfl Iff.rfl Iff.rfl rfl rfl) (absent_of_placed (h.placed c nofun) quiet) h.received
    h.ready h.done h.link

/-- What changes neither the states of the contexts, nor the queues, nor whose the searches and the frames are. -/
theorem Board.congr (h : Board out s)
    (contexts : ∀ d, out ≠ some d → (t.context d).state = (s.context d).state ∧ (t.context d).linked = (s.context d).linked)
    (received : t.trunk.received = s.trunk.received) (ready : t.trunk.ready = s.trunk.ready)
    (serving : ∀ d k, SearchContext.runsFor (t.searchContext k) d ↔ SearchContext.runsFor (s.searchContext k) d)
    (done : ∀ k code r, t.searchContext k = .done code r → r.owner = .loc)
    (receiving : ∀ d, Link.receivesInto t.link d ↔ Link.receivesInto s.link d)
    (sending : ∀ d, Link.sendsFrom t.link d ↔ Link.sendsFrom s.link d) (link : LinkOk t.link) : Board out t where
  placed d other := placed_of_same (h.placed d other) ⟨(contexts d other).1, (contexts d other).2, by rw [received],
    by rw [ready], serving d, receiving d, sending d⟩
  absent d gone := by
    obtain ⟨inReceived, inReady, serves, receives, sends⟩ := h.absent d gone
    exact ⟨received ▸ inReceived, ready ▸ inReady, fun k runs => serves k ((serving d k).mp runs),
      fun into => receives ((receiving d).mp into), fun sent => sends ((sending d).mp sent)⟩
  received := received ▸ h.received
  ready := ready ▸ h.ready
  done := done
  link := link

/-- The same where searches and link are as they were. -/
theorem Board.congr_contexts (h : Board out s)
    (contexts : ∀ d, out ≠ some d → (t.context d).state = (s.context d).state ∧ (t.context d).linked = (s.context d).linked)
    (received : t.trunk.received = s.trunk.received) (ready : t.trunk.ready = s.trunk.ready) (search : t.search = s.search)
    (link : t.link = s.link) : Board out t := by
  have searches (k : Fin 4) : t.searchContext k = s.searchContext k := by simp only [State.searchContext, search]
  exact h.congr contexts received ready (fun d k => by rw [searches]) (fun k code r => by rw [searches]; exact h.done k code r)
    (fun d => by rw [link]) (fun d => by rw [link]) (link ▸ h.link)

theorem board_congr (out : Option (Fin 6)) (s t : State) (same : ∀ a ∈ [Aspect.trunk, .search, .link], a.kept s t)
    (h : Board out s) : Board out t := by
  have trunk : t.trunk = s.trunk := same .trunk (by simp)
  refine h.congr_contexts (fun d _ => ?_) (by rw [trunk]) (by rw [trunk]) (same .search (by simp)) (same .link (by simp))
  simp only [State.context, trunk, and_self]

theorem Board.setLink (h : Board out s) {l : Link} (receiving : ∀ d, Link.receivesInto l d ↔ Link.receivesInto s.link d)
    (sending : ∀ d, Link.sendsFrom l d ↔ Link.sendsFrom s.link d) (ok : LinkOk l) : Board out (s.setLink l) :=
  h.congr (fun _ _ => ⟨rfl, rfl⟩) rfl rfl (fun _ _ => Iff.rfl) h.done receiving sending ok

theorem Board.setSearch (h : Board out s) {x : SearchContext}
    (serving : ∀ d, SearchContext.runsFor x d ↔ SearchContext.runsFor (s.searchContext k) d)
    (done : ∀ code r, x = .done code r → r.owner = .loc) : Board out (s.setSearch k x) := by
  refine h.congr (fun _ _ => ⟨rfl, rfl⟩) rfl rfl (fun d m => ?_) (fun m code r => ?_) (fun _ => Iff.rfl) (fun _ => Iff.rfl) h.link
  all_goals rw [searchContext_setSearch]; split
  next same => exact same ▸ serving d
  · rfl
  · exact done code r
  · exact h.done m code r

/-! ## Moves of a context that is off the board -/

theorem context_setContext_of_ne (other : d ≠ c) : (s.setContext c x).context d = s.context d := by
  rw [context_setContext, if_neg (Ne.symm other)]

theorem Board.store (h : Board (some c) s) (x : TrunkContext) : Board (some c) (s.setContext c x) := by
  refine h.congr_contexts (fun d other => ?_) rfl rfl rfl rfl
  rw [context_setContext_of_ne fun same => other (congrArg some same.symm)]
  exact ⟨rfl, rfl⟩

theorem Board.land_quiet (h : Board (some c) s) (quiet : x.state = .idle ∨ x.state = .awaitingHost) :
    Board none (s.setContext c x) := by
  have stored := h.store x
  refine board_of_move stored.others (fun d _ => sameFor_of_blocks rfl Iff.rfl Iff.rfl rfl rfl) ?_ stored.received
    stored.ready stored.done
    stored.link
  exact placed_of_absent (stored.absent c rfl) (by rwa [context_setContext_self])

theorem Board.land_clear (h : Board (some c) s) : Board none (clearContext c s) :=
  h.land_quiet (x := TrunkContext.idleWith (s.context c).ticket) (.inl rfl)

/-- Beside `c`, who joins a queue at its tail changes nothing. -/
theorem mem_append_singleton_of_ne {l : List (Fin 6)} (other : d ≠ c) : d ∈ l ++ [c] ↔ d ∈ l := by simp [other]

/-- R127: a context with a reply joins the ready queue, at its tail or at its head. -/
theorem Board.land_ready (h : Board (some c) s) {l : List (Fin 6)} (contexts : ∀ d, d ≠ c → t.context d = s.context d)
    (state : (t.context c).state = .replyReady) (ready : t.trunk.ready = l) (nodup : l.Nodup)
    (joins : ∀ d, d ∈ l ↔ d = c ∨ d ∈ s.trunk.ready) (received : t.trunk.received = s.trunk.received)
    (search : t.search = s.search) (link : t.link = s.link) : Board none t := by
  obtain ⟨inReceived, -, serving, receives, sends⟩ := h.absent c rfl
  have searches (k : Fin 4) : t.searchContext k = s.searchContext k := by simp only [State.searchContext, search]
  refine board_of_move h.others (fun d other => ?_) ?_ (received ▸ h.received) (ready ▸ nodup)
    (fun k code r ended => h.done k code r (searches k ▸ ended)) (link ▸ h.link)
  · exact sameFor_of_blocks (contexts d other) (by rw [received]) (by rw [ready, joins]; simp [other]) search link
  · constructor
    · simp [received, inReceived, state]
    · simp [ready, joins, state]
    · simp [searches, serving, state]
    · simp [state]
    · simp [link, receives, state]
    · simp [link, sends, state]

/-- R126: a context with a request joins the received queue at its tail. -/
theorem Board.land_received (h : Board (some c) s) (contexts : ∀ d, d ≠ c → t.context d = s.context d)
    (state : (t.context c).state = .received) (received : t.trunk.received = s.trunk.received ++ [c])
    (ready : t.trunk.ready = s.trunk.ready) (search : t.search = s.search) (link : t.link = s.link) : Board none t := by
  obtain ⟨fresh, notReady, serving, receives, sends⟩ := h.absent c rfl
  have searches (k : Fin 4) : t.searchContext k = s.searchContext k := by simp only [State.searchContext, search]
  refine board_of_move h.others (fun d other => ?_) ?_ (received ▸ nodup_append_singleton h.received fresh)
    (ready ▸ h.ready) (fun k code r ended => h.done k code r (searches k ▸ ended)) (link ▸ h.link)
  · exact sameFor_of_blocks (contexts d other) (by rw [received, mem_append_singleton_of_ne other]) (by rw [ready]) search
      link
  · constructor
    · simp [received, state]
    · simp [ready, notReady, state]
    · simp [searches, serving, state]
    · simp [state]
    · simp [link, receives, state]
    · simp [link, sends, state]

theorem Board.land_reply (h : Board (some c) s) (r : Reply) : Board none (buildReply c r s) := by
  have fresh := (h.absent c rfl).ready
  refine h.land_ready (l := s.trunk.ready ++ [c]) (fun d other => ?_) ?_ rfl (nodup_append_singleton h.ready fresh)
    (fun d => by simp [or_comm]) rfl rfl rfl
  · rw [context_buildReply, if_neg (Ne.symm other)]
  · rw [context_buildReply, if_pos rfl]

theorem runsFor_running (r : Search) : SearchContext.runsFor (.running r) c ↔ r.owner = .trunk c := by
  constructor
  · rintro ⟨_, ⟨⟩, owner⟩
    exact owner
  · exact fun owner => ⟨r, rfl, owner⟩

theorem not_runsFor_idle : ¬ SearchContext.runsFor .idle c := nofun

theorem not_runsFor_done {code : EndCode} {r : Search} : ¬ SearchContext.runsFor (.done code r) c := nofun

/-- R92, R130: the context claims an IDLE search context. -/
theorem Board.land_claim (h : Board (some c) s) {r : Search} (idle : s.searchContext k = .idle) (owner : r.owner = .trunk c) :
    Board none (claimSearch c k r s) := by
  obtain ⟨received, ready, serving, receives, sends⟩ := h.absent c rfl
  have searches (m : Fin 4) : (claimSearch c k r s).searchContext m = if k = m then .running r else s.searchContext m :=
    searchContext_setSearch s k m _
  have contexts (d : Fin 6) : (claimSearch c k r s).context d
      = if c = d then { s.context c with state := .serving, linked := some k } else s.context d :=
    context_setContext (s.setSearch k (.running r)) c d _
  refine board_of_move h.others (fun d other => ?_) ?_ h.received h.ready (fun m code q => ?_) h.link
  · have same : (claimSearch c k r s).context d = s.context d := by rw [contexts, if_neg (Ne.symm other)]
    refine ⟨by rw [same], by rw [same], Iff.rfl, Iff.rfl, fun m => ?_, Iff.rfl, Iff.rfl⟩
    rw [searches]
    split
    next here =>
      rw [← here, idle, runsFor_running, owner]
      simp [not_runsFor_idle, Ne.symm other]
    · rfl
  · have here := (contexts c).trans (if_pos rfl)
    have received' : c ∉ (claimSearch c k r s).trunk.received := received
    have ready' : c ∉ (claimSearch c k r s).trunk.ready := ready
    have receives' : ¬ Link.receivesInto (claimSearch c k r s).link c := receives
    have sends' : ¬ Link.sendsFrom (claimSearch c k r s).link c := sends
    constructor
    · simp [here, received']
    · simp [here, ready']
    · intro m
      rw [here, searches]
      split
      next same => simp [same, runsFor_running, owner]
      next other => simp [other, serving m]
    · simp [here]
    · simp [here, receives']
    · simp [here, sends']
  · rw [searches]
    split
    · exact nofun
    · exact h.done m code q

end Sys2Proof.Proofs
end

section
/-! PROOFS. Every step keeps the law of the trunk side, row by row. -/

namespace Sys2Proof.Proofs

open Sys2Proof.Machine Sys2Proof.Laws

variable {s t u : State} {c d : Fin 6} {k : Fin 4} {out : Option (Fin 6)} {x : TrunkContext} {l : Link}

/-! ## The link -/

theorem receivesInto_iff (frame : ∃ part, l.receiver = .frame c part) : Link.receivesInto l d ↔ d = c := by
  obtain ⟨part, frame⟩ := frame
  constructor
  · rintro ⟨_, other⟩
    rw [frame] at other
    cases other
    rfl
  · rintro rfl
    exact ⟨part, frame⟩

theorem not_receivesInto (free : ∀ d part, l.receiver ≠ .frame d part) : ¬ Link.receivesInto l d :=
  fun ⟨part, frame⟩ => free d part frame

theorem sendsFrom_iff {y : Transmission} (sending : l.transmitter = some y) : Link.sendsFrom l d ↔ y.context = d := by
  constructor
  · rintro ⟨_, sends, context⟩
    rw [sending] at sends
    cases sends
    exact context
  · exact fun context => ⟨y, sending, context⟩

theorem not_sendsFrom (silent : l.transmitter = none) : ¬ Link.sendsFrom l d := by
  rintro ⟨_, sends, -⟩
  rw [silent] at sends
  cases sends

theorem linkOk_of_silent (silent : l.transmitter = none) (still : l.state ≠ .busy → l.receiver = .waiting) : LinkOk l :=
  ⟨fun quiet => ⟨still quiet, silent⟩, fun sends => absurd silent sends⟩

theorem linkOk_of_busy (busy : l.state = .busy) (turns : l.transmitter ≠ none → ∀ c part, l.receiver ≠ .frame c part) :
    LinkOk l := ⟨fun quiet => absurd busy quiet, turns⟩

/-- While the link is not BUSY no frame is received, and none is sent. -/
theorem LinkOk.free (h : LinkOk l) (quiet : l.state ≠ .busy) (d : Fin 6) (part : FramePart) : l.receiver ≠ .frame d part := by
  rw [(h.still quiet).1]
  exact nofun

/-- The link changes its receiver, of which no frame was and none is. -/
theorem Board.setLink_free (h : Board out s) (before : ∀ d part, s.link.receiver ≠ .frame d part)
    (free : ∀ d part, l.receiver ≠ .frame d part) (same : l.transmitter = s.link.transmitter) (ok : LinkOk l) :
    Board out (s.setLink l) :=
  h.setLink (fun _ => iff_of_false (not_receivesInto free) (not_receivesInto before))
    (fun d => by rw [Link.sendsFrom, same]; rfl) ok

/-- A context whose frame the link gives up goes off the board. -/
theorem Board.lift_link (h : Board none s) (was : (s.context c).state = .receiving ∨ (s.context c).state = .sending)
    (receiving : ∀ d, d ≠ c → (Link.receivesInto l d ↔ Link.receivesInto s.link d))
    (sending : ∀ d, d ≠ c → (Link.sendsFrom l d ↔ Link.sendsFrom s.link d))
    (noFrame : ¬ Link.receivesInto l c) (noReply : ¬ Link.sendsFrom l c) (ok : LinkOk l) :
    Board (some c) (s.setLink l) := by
  have here : Placed s c := h.placed c nofun
  refine h.lift (fun d other => ⟨rfl, rfl, Iff.rfl, Iff.rfl, fun _ => Iff.rfl, receiving d other, sending d other⟩)
    ⟨?_, ?_, fun k => ?_, noFrame, noReply⟩ h.received h.ready h.done ok
  · refine mt here.received.mp ?_
    rcases was with e | e <;> simp [e]
  · refine mt here.ready.mp ?_
    rcases was with e | e <;> simp [e]
  · refine mt (here.serving k).mpr ?_
    rcases was with e | e <;> simp [e]

theorem Board.state_receiving (h : Board none s) {part : FramePart} (frame : s.link.receiver = .frame c part) :
    (s.context c).state = .receiving := (h.placed c nofun).receiving.mpr ⟨part, frame⟩

theorem Board.state_sending (h : Board none s) {y : Transmission} (sends : s.link.transmitter = some y) :
    (s.context y.context).state = .sending := (h.placed _ nofun).sending.mpr ⟨y, sends, rfl⟩

/-- The receiver gives up a frame. -/
theorem Board.lift_frame (h : Board none s) {part : FramePart} (frame : s.link.receiver = .frame c part)
    (free : ∀ d part, l.receiver ≠ .frame d part) (same : l.transmitter = s.link.transmitter) (ok : LinkOk l) :
    Board (some c) (s.setLink l) := by
  have state := h.state_receiving frame
  refine h.lift_link (.inl state) (fun d other => ?_) (fun d _ => by rw [Link.sendsFrom, same]; rfl) (not_receivesInto free)
    ?_ ok
  · exact iff_of_false (not_receivesInto free) (mt (receivesInto_iff ⟨part, frame⟩).mp other)
  · have silent : ¬ Link.sendsFrom s.link c := mt (h.placed c nofun).sending.mpr (by simp [state])
    rw [Link.sendsFrom, same]
    exact silent

/-- The transmitter gives up a reply. -/
theorem Board.lift_reply (h : Board none s) {y : Transmission} (sends : s.link.transmitter = some y)
    (silent : l.transmitter = none) (same : l.receiver = s.link.receiver) (ok : LinkOk l) :
    Board (some y.context) (s.setLink l) := by
  have state := h.state_sending sends
  refine h.lift_link (.inr state) (fun d _ => by rw [Link.receivesInto, same]; rfl) (fun d other => ?_) ?_
    (not_sendsFrom silent) ok
  · exact iff_of_false (not_sendsFrom silent) (mt (sendsFrom_iff sends).mp (Ne.symm other))
  · have free : ¬ Link.receivesInto s.link y.context := mt (h.placed _ nofun).receiving.mpr (by simp [state])
    rw [Link.receivesInto, same]
    exact free

theorem discardFrame_link (s : State) : (discardFrame s).link = s.link := by
  unfold discardFrame
  split <;> rfl

theorem discardFrame_transmitter (s : State) : (discardFrame s).link.transmitter = s.link.transmitter := by
  rw [discardFrame_link]

/-- R116: a frame that is not finished is discarded, and its context goes IDLE. -/
theorem Board.discard (h : Board none s) (free : ∀ d part, l.receiver ≠ .frame d part)
    (same : l.transmitter = s.link.transmitter) (ok : LinkOk l) : Board none ((discardFrame s).setLink l) := by
  unfold discardFrame
  split
  next c part frame => exact (h.lift_frame frame free same ok).land_clear
  all_goals
    next other =>
      exact h.setLink_free (by rw [other]; exact nofun) free same ok

theorem linkOk_dropped (h : LinkOk l) : LinkOk { l with transmitter := none } :=
  linkOk_of_silent rfl fun quiet => (h.still quiet).1

theorem dropReply_eq (c : Fin 6) (s : State) :
    dropReply c s = clearContext c (s.setLink { s.link with transmitter := none }) := rfl

theorem Board.dropReply (h : Board none s) {y : Transmission} (sends : s.link.transmitter = some y) :
    Board none (dropReply y.context s) := by
  rw [dropReply_eq]
  exact (h.lift_reply (l := { s.link with transmitter := none }) sends rfl rfl (linkOk_dropped h.link)).land_clear

theorem Board.dropSending (h : Board none s) : Board none (dropSending s) := by
  unfold Machine.dropSending
  split
  · exact h
  next y sends => exact h.dropReply sends

/-! ## Conditions -/

theorem Board.startEffect (h : Board none s) : Board none (startEffect s) := by
  unfold Machine.startEffect
  split
  next free =>
    have quiet : s.link.state ≠ .busy := by rw [free.2]; decide
    obtain ⟨-, silent⟩ := h.link.still quiet
    exact h.setLink_free (h.link.free quiet) nofun rfl (linkOk_of_busy rfl fun sends => absurd silent sends)
  · exact h

theorem Board.restartEffect (h : Board none s) : Board none (restartEffect s) := by
  unfold Machine.restartEffect
  split
  · have silent : (Machine.dropSending s).link.transmitter = none := by rw [dropSending_transmitter]
    refine h.dropSending.discard nofun (discardFrame_transmitter _) (linkOk_of_busy rfl fun _ => nofun)
  · exact h

/-- R116: a frame whose check was acknowledged is RECEIVED. -/
theorem Board.completeFrame (h : Board none s) {part : FramePart} (frame : s.link.receiver = .frame c part)
    (free : ∀ d part, l.receiver ≠ .frame d part) (same : l.transmitter = s.link.transmitter) (ok : LinkOk l) :
    Board none ((completeFrame c s).setLink l) := by
  have lifted := h.lift_frame frame free same ok
  have contexts (d : Fin 6) : ((Machine.completeFrame c s).setLink l).context d
      = if c = d then { s.context c with state := .received } else s.context d := context_setContext s c d _
  refine lifted.land_received (fun d other => ?_) ?_ rfl rfl rfl rfl
  · exact (contexts d).trans (if_neg (Ne.symm other))
  · rw [contexts, if_pos rfl]

theorem Board.stopEffect (h : Board none s) : Board none (stopEffect s) := by
  unfold Machine.stopEffect
  split
  · have silent : (Machine.dropSending s).link.transmitter = none := by rw [dropSending_transmitter]
    have board := h.dropSending
    generalize Machine.dropSending s = u at silent board
    have discarded : Board none (endFrame (discardFrame u)) :=
      board.discard nofun (discardFrame_transmitter u)
        (linkOk_of_silent ((discardFrame_transmitter u).trans silent) fun _ => rfl)
    simp only
    split
    next c frame => exact board.completeFrame frame nofun rfl (linkOk_of_silent silent fun _ => rfl)
    all_goals exact discarded
  · exact h

/-! ## Received bytes -/

/-- The link takes up the frame of a context, which moves with it. -/
theorem Board.land_link (h : Board (some c) s) (contexts : ∀ d, d ≠ c → t.context d = s.context d)
    (received : t.trunk.received = s.trunk.received) (ready : t.trunk.ready = s.trunk.ready) (search : t.search = s.search)
    (on : (t.context c).state = .receiving ∨ (t.context c).state = .sending)
    (receiving : ∀ d, Link.receivesInto t.link d ↔ d = c ∧ (t.context c).state = .receiving)
    (sending : ∀ d, Link.sendsFrom t.link d ↔ d = c ∧ (t.context c).state = .sending)
    (ok : LinkOk t.link) (silent : ∀ d, d ≠ c → ¬ Link.receivesInto s.link d ∧ ¬ Link.sendsFrom s.link d) :
    Board none t := by
  obtain ⟨notReceived, notReady, serving, -, -⟩ := h.absent c rfl
  have searches (k : Fin 4) : t.searchContext k = s.searchContext k := by simp only [State.searchContext, search]
  refine board_of_move h.others (fun d other => ?_) ?_ (received ▸ h.received) (ready ▸ h.ready)
    (fun k code r ended => h.done k code r (searches k ▸ ended)) ok
  · obtain ⟨noFrame, noReply⟩ := silent d other
    refine ⟨congrArg _ (contexts d other), congrArg _ (contexts d other), by rw [received], by rw [ready],
      fun k => by rw [searches], ?_, ?_⟩
    · exact iff_of_false (fun into => other ((receiving d).mp into).1) noFrame
    · exact iff_of_false (fun sends => other ((sending d).mp sends).1) noReply
  · constructor
    · rw [received]
      exact iff_of_false notReceived (by rcases on with e | e <;> simp [e])
    · rw [ready]
      exact iff_of_false notReady (by rcases on with e | e <;> simp [e])
    · intro k
      rw [searches]
      exact iff_of_false (by rcases on with e | e <;> simp [e]) (serving k)
    · rcases on with e | e <;> simp [e]
    · simp [receiving]
    · simp [sending]

theorem idleContext_idle (claimed : s.idleContext = some c) : (s.context c).state = .idle := by
  simpa using List.find?_some claimed

theorem Board.judgeDestination (v : Byte) (h : Board none s) (busy : s.link.state = .busy)
    (silent : s.link.transmitter = none) (waits : s.link.receiver = .destination) : Board none (judgeDestination v s) := by
  have before : ∀ d part, s.link.receiver ≠ .frame d part := by rw [waits]; exact nofun
  unfold Machine.judgeDestination
  split
  next c claimed =>
    have idle : (s.context c).state = .idle := by
      unfold claimable at claimed
      split at claimed
      · exact idleContext_idle claimed
      · cases claimed
    have state : ((acceptNext c .source v (s.setContext c (claimedContext (s.context c)))).context c).state = .receiving :=
      congrArg TrunkContext.state (context_setContext_self s c (claimedContext (s.context c)))
    refine (h.lift_quiet (.inl idle)).land_link (fun d other => context_setContext_of_ne other) rfl rfl rfl (.inl state)
      (fun d => ?_) (fun d => ?_) (linkOk_of_busy busy fun sends => absurd silent sends)
      fun d _ => ⟨not_receivesInto before, not_sendsFrom silent⟩
    · rw [state]
      simpa using receivesInto_iff (c := c) (d := d) ⟨.source, rfl⟩
    · rw [state]
      exact iff_of_false (not_sendsFrom silent) (by simp)
  · exact h.setLink_free before nofun rfl (linkOk_of_busy busy fun _ => nofun)

theorem Board.judgeByte (v : Byte) {part : FramePart} (h : Board none s) (busy : s.link.state = .busy)
    (silent : s.link.transmitter = none) (frame : s.link.receiver = .frame c part) : Board none (judgeByte c part v s) := by
  unfold Machine.judgeByte
  split
  next next y accepted =>
    obtain ⟨state, -, linked, -⟩ := acceptByte_keeps accepted
    refine h.congr (fun d _ => ?_) rfl rfl (fun _ _ => Iff.rfl) h.done (fun d => ?_) (fun _ => Iff.rfl)
      (linkOk_of_busy busy fun sends => absurd silent sends)
    · have stored : (acceptNext c next v (s.setContext c y)).context d = if c = d then y else s.context d :=
        context_setContext s c d y
      rw [stored]
      split
      next same => exact same ▸ ⟨state, linked⟩
      · exact ⟨rfl, rfl⟩
    · exact (receivesInto_iff (c := c) ⟨next, rfl⟩).trans (receivesInto_iff ⟨part, frame⟩).symm
  · exact h.discard nofun (discardFrame_transmitter s)
      (linkOk_of_busy ((congrArg Link.state (discardFrame_link s)).trans busy) fun _ => nofun)

theorem Board.receiveEffect (v : Byte) (h : Board none s) : Board none (receiveEffect v s) := by
  unfold Machine.receiveEffect
  split
  next follows =>
    have ⟨busy, silent⟩ : s.link.state = .busy ∧ s.link.transmitter = none := by simpa [State.follows] using follows
    split
    next waits => exact h.judgeDestination v busy silent waits
    next frame => exact h.judgeByte v busy silent frame
    all_goals exact h.setLink (fun _ => Iff.rfl) (fun _ => Iff.rfl) ⟨h.link.still, h.link.turns⟩
  · exact h

/-! ## Sending -/

theorem Board.endSending (h : Board none s) {y : Transmission} (sends : s.link.transmitter = some y) :
    Board none (endSending y.context s) := by
  have free := h.link.turns (by simp [sends])
  exact (h.dropReply sends).setLink_free free nofun rfl (linkOk_of_silent rfl fun _ => rfl)

theorem Board.ackEffect (acknowledged : Bool) (h : Board none s) : Board none (ackEffect acknowledged s) := by
  unfold Machine.ackEffect
  split
  · exact h
  next y sends =>
    have free := h.link.turns (by simp [sends])
    have busy : s.link.state = .busy := by
      apply Decidable.byContradiction
      intro quiet
      have silent := (h.link.still quiet).2
      simp [sends] at silent
    split
    · exact kept_of_keeps (board_congr none) (keeps_setTrunkCause .undelivered) rfl (h.endSending sends)
    · split
      · exact h.endSending sends
      · exact h.setLink (fun _ => iff_of_false (not_receivesInto nofun) (not_receivesInto free))
          (fun d => (sendsFrom_iff (y := { y with sent := y.sent + 1 }) rfl).trans (sendsFrom_iff sends).symm)
          (linkOk_of_busy busy fun _ => nofun)

theorem Board.lostEffect (bit : Fin 8) (h : Board none s) : Board none (lostEffect bit s) := by
  obtain same | ⟨y, sends, lost⟩ := lostEffect_eq bit s
  · rwa [same]
  · rw [lost]
    have lifted := h.lift_reply (l := { s.link with transmitter := none }) sends rfl rfl (linkOk_dropped h.link)
    have fresh := (lifted.absent _ rfl).ready
    have contexts (d : Fin 6) : (putBack y.context s).context d
        = if y.context = d then { s.context y.context with state := .replyReady } else s.context d :=
      context_setContext s y.context d _
    refine lifted.land_ready (t := putBack y.context s) (l := y.context :: s.trunk.ready) (fun d other => ?_) ?_ rfl
      (List.nodup_cons.mpr ⟨fresh, h.ready⟩) (fun d => List.mem_cons) rfl rfl rfl
    · exact (contexts d).trans (if_neg (Ne.symm other))
    · rw [contexts, if_pos rfl]

/-- R118: the head of the ready queue leaves it. -/
theorem Board.lift_ready (h : Board none s) {rest : List (Fin 6)} (queue : s.trunk.ready = c :: rest) :
    Board (some c) (s.setTrunk { s.trunk with ready := rest }) := by
  have here : Placed s c := h.placed c nofun
  have state : (s.context c).state = .replyReady := here.ready.mp (queue ▸ List.mem_cons_self)
  obtain ⟨fresh, nodup⟩ := List.nodup_cons.mp (queue ▸ h.ready)
  refine h.lift (fun d other => sameFor_of_blocks rfl Iff.rfl ?_ rfl rfl) ⟨?_, fresh, fun k => ?_, ?_, ?_⟩ h.received nodup
    h.done h.link
  · change d ∈ rest ↔ d ∈ s.trunk.ready
    rw [queue]
    simp [other]
  · exact mt here.received.mp (by simp [state])
  · exact mt (here.serving k).mpr (by simp [state])
  · exact mt here.receiving.mpr (by simp [state])
  · exact mt here.sending.mpr (by simp [state])

theorem Board.sendStart (h : Board none s) : Board none (sendStart s) := by
  obtain same | ⟨c, rest, queue, -, idle, silent, started⟩ := sendStart_eq s
  · rwa [same]
  · rw [started]
    have free := h.link.free (by rw [idle]; decide)
    have contexts (d : Fin 6) : (startSending c rest s).context d
        = if c = d then { s.context c with state := .sending } else s.context d := context_setContext s c d _
    have state : ((startSending c rest s).context c).state = .sending := by rw [contexts, if_pos rfl]
    refine (h.lift_ready queue).land_link (t := startSending c rest s) (fun d other => ?_) rfl rfl rfl (.inr state)
      (fun d => ?_) (fun d => ?_) (linkOk_of_busy rfl fun _ => nofun)
      fun d _ => ⟨not_receivesInto free, not_sendsFrom silent⟩
    · exact (contexts d).trans (if_neg (Ne.symm other))
    · rw [state]
      simpa using not_receivesInto (l := (startSending c rest s).link) nofun
    · rw [state, sendsFrom_iff (y := { context := c, sent := 0 }) rfl]
      simp [eq_comm]

/-! ## Waits that end -/

theorem Board.endWait (code : ResultCode) (h : Board none s) (awaits : (s.context c).state = .awaitingHost) :
    Board none (endWait code c s) := (h.lift_quiet (.inr awaits)).land_reply _

theorem Board.endWaits (code : ResultCode) {ends : TrunkContext → Bool}
    (awaits : ∀ x, ends x = true → x.state = .awaitingHost) (h : Board none s) : Board none (endWaits code ends s) := by
  unfold Machine.endWaits
  generalize List.finRange 6 = l
  induction l generalizing s with
  | nil => exact h
  | cons c rest ih =>
    rw [List.foldl_cons]
    refine ih ?_
    split
    next ended => exact h.endWait code (awaits _ ended)
    · exact h

theorem Board.answerDeferred (h : Board none s) : Board none (answerDeferred s) :=
  h.endWaits .deferred fun _ ends => of_decide_eq_true ends

theorem Board.settleExpiry (h : Board none s) : Board none (settleExpiry s) := by
  unfold Machine.settleExpiry
  split
  · refine h.endWaits .partial_ fun x ends => ?_
    rw [TrunkContext.expired, Bool.and_eq_true] at ends
    exact of_decide_eq_true ends.1
  · exact h

theorem Board.performAnswer (y : CommandSlot) (s : State) (h : Board none s) : Board none (performAnswer y s).state := by
  unfold Machine.performAnswer
  split
  · exact h
  · extract_lets x items
    split
    next taken => exact (h.lift_quiet (.inr taken.1)).land_reply _
    · exact h

/-! ## Searches -/

/-- A Command grant keeps the board if performing its command does. -/
theorem Board.commandGrant {accepts : Byte → Bool} {perform : CommandSlot → State → Completion}
    (performed : ∀ c u, Board none u → Board none (perform c u).state) (h : Board none s) :
    Board none (commandGrant accepts perform s) :=
  kept_commandGrant (kept_of_keeps (board_congr none) keeps_takeCommand rfl) performed
    (fun _ _ => kept_of_keeps (board_congr none) (keeps_finishCommand (A := []) (keeps_refl _ _)) rfl) h

theorem not_runsFor_of_loc {r : Search} (owner : r.owner = .loc) : ¬ SearchContext.runsFor (.running r) c := by
  rw [runsFor_running, owner]
  exact nofun

theorem Board.performSearchStart (y : CommandSlot) (s : State) (h : Board none s) :
    Board none (performSearchStart y s).state := by
  by_cases fields : searchFieldsOk y
  · cases lowest : s.idleSearch with
    | none => rwa [performSearchStart_of_full fields lowest]
    | some k =>
      rw [performSearchStart_of_idle fields lowest]
      have idle := (idleSearch_eq_some_iff.mp lowest).1
      refine h.setSearch (k := k) (x := .running (localSearch y)) (fun d => ?_) nofun
      rw [idle]
      exact iff_of_false (not_runsFor_of_loc rfl) not_runsFor_idle
  · rwa [performSearchStart_of_bad_fields fields]

theorem Board.performSearchCancel (y : CommandSlot) (s : State) (h : Board none s) :
    Board none (performSearchCancel y s).state := by
  obtain same | ⟨k, r, running, owner, cancelled⟩ := performSearchCancel_eq y s
  · rwa [same]
  · rw [cancelled]
    refine h.setSearch (x := .done .cancelled r) (fun d => ?_) fun code q ended => ?_
    · rw [running]
      exact iff_of_false not_runsFor_done (not_runsFor_of_loc owner)
    · cases ended
      exact owner

theorem Board.performSearchRelease (y : CommandSlot) (s : State) (h : Board none s) :
    Board none (performSearchRelease y s).state := by
  obtain same | ⟨k, code, r, done, released⟩ := performSearchRelease_eq y s
  · rwa [same]
  · rw [released]
    refine h.setSearch (x := .idle) (fun d => ?_) nofun
    rw [done]
    exact iff_of_false not_runsFor_idle not_runsFor_done

/-- The context of a search that ends goes off the board. -/
theorem Board.lift_search (h : Board none s) {r : Search} (running : s.searchContext k = .running r)
    (owner : r.owner = .trunk c) : Board (some c) (s.setSearch k .idle) := by
  have here : Placed s c := h.placed c nofun
  obtain ⟨state, linked⟩ := (here.serving k).mpr ⟨r, running, owner⟩
  refine h.lift (fun d other => ⟨rfl, rfl, Iff.rfl, Iff.rfl, fun m => ?_, Iff.rfl, Iff.rfl⟩) ⟨?_, ?_, fun m => ?_, ?_, ?_⟩
    h.received h.ready (fun m code q => ?_) h.link
  · rw [searchContext_setSearch]
    split
    next same =>
      rw [← same, running, runsFor_running, owner]
      exact iff_of_false not_runsFor_idle (by simpa using Ne.symm other)
    · rfl
  · exact mt here.received.mp (by simp [state])
  · exact mt here.ready.mp (by simp [state])
  · rw [searchContext_setSearch]
    split
    · exact not_runsFor_idle
    next other => exact mt (here.serving m).mpr (by simpa [linked] using fun _ => other)
  · exact mt here.receiving.mpr (by simp [state])
  · exact mt here.sending.mpr (by simp [state])
  · rw [searchContext_setSearch]
    split
    · exact nofun
    · exact h.done m code q

theorem Board.seekEnd (results : List Handle) (cursor : Nat) (h : Board (some c) s) :
    Board none (seekEnd c results cursor s) := by
  cases guarded : (seekItems s c results).any (fun y => y.guarded) with
  | false =>
    rw [seekEnd_of_open rfl guarded]
    exact (h.store _).land_reply _
  | true =>
    cases host : s.doze.host with
    | awake =>
      rw [seekEnd_of_awake rfl guarded host]
      exact kept_of_keeps (board_congr none) (keeps_setFlag (by decide)) rfl ((h.store _).land_quiet (.inr rfl))
    | doze =>
      rw [seekEnd_of_doze rfl guarded host]
      exact kept_of_keeps (board_congr none) (keeps_seekWake _ _ _) rfl ((h.store _).land_reply _)

theorem Board.endSearch {r q : Search} {code : Option EndCode} (running : s.searchContext k = .running q)
    (owner : r.owner = q.owner) (h : Board none s) : Board none (endSearch k r code s) := by
  cases code with
  | none =>
    refine h.setSearch (x := .running r) (fun d => ?_) nofun
    rw [running, runsFor_running, runsFor_running, owner]
  | some code =>
    cases owned : r.owner with
    | loc =>
      rw [endSearch_of_loc code owned]
      have ended : Board none (s.setSearch k (.done code r)) := by
        refine h.setSearch (fun d => ?_) fun code q ended => ?_
        · rw [running]
          exact iff_of_false not_runsFor_done (not_runsFor_of_loc (owner ▸ owned))
        · cases ended
          exact owned
      exact kept_of_keeps (board_congr none) (keeps_setFlag (by decide)) rfl ended
    | trunk c =>
      rw [endSearch_of_trunk code owned]
      exact (h.lift_search running (owner ▸ owned)).seekEnd _ _

theorem Board.searchGrant (h : Board none s) : Board none (searchGrant s) := by
  obtain same | ⟨k, r, running, served⟩ := searchGrant_eq s
  · rwa [same]
  · rw [served]
    have taken : Board none (takeSearch k s) := kept_of_keeps (board_congr none) (keeps_setArb _) rfl h
    exact taken.endSearch (q := r) running (walk_owner _ _ _)

/-! ## Trunk grants -/

/-- R126: the request at the head leaves the received queue. -/
theorem Board.takeRequest (h : Board none s) (head : s.trunkHead = some c) : Board (some c) (takeRequest s) := by
  have here : Placed s c := h.placed c nofun
  have queue := received_of_trunkHead s head
  have state : (s.context c).state = .received := here.received.mp (queue ▸ List.mem_cons_self)
  obtain ⟨fresh, nodup⟩ := List.nodup_cons.mp (queue ▸ h.received)
  refine h.lift (fun d other => sameFor_of_blocks rfl ?_ Iff.rfl rfl rfl) ⟨fresh, ?_, fun k => ?_, ?_, ?_⟩ nodup h.ready
    h.done h.link
  · change d ∈ s.trunk.received.tail ↔ d ∈ s.trunk.received
    rw [queue]
    simp [other]
  · exact mt here.ready.mp (by simp [state])
  · exact mt (here.serving k).mpr (by simp [state])
  · exact mt here.receiving.mpr (by simp [state])
  · exact mt here.sending.mpr (by simp [state])

theorem Board.trunkGrant {A : List Aspect} {select : Option Request → Option (Fin 6 → State → State)}
    (answers : Answers A select) (apart : apart [.trunk, .search, .link] A = true) (h : Board none s) :
    Board none (trunkGrant select s) := by
  unfold Machine.trunkGrant
  split
  · exact h
  next c head =>
    split
    · exact h
    next serve selected =>
      obtain ⟨v, reply, kept, served⟩ := answers _ serve selected c (Machine.takeRequest s)
      rw [served]
      exact (kept_of_keeps (board_congr (some c)) kept apart (h.takeRequest head)).land_reply reply

theorem Board.seek (h : Board none s) : Board none (Machine.trunkGrant selectSeek s) := by
  unfold Machine.trunkGrant
  split
  · exact h
  next c head =>
    split
    · exact h
    next serve selected =>
      have taken := h.takeRequest head
      obtain ⟨k, start, options, cls, pattern, mask, lowest, claimed⟩ | ⟨reply, answered⟩ :=
        serveSeek_eq selected c (Machine.takeRequest s)
      · rw [claimed]
        exact taken.land_claim (idleSearch_eq_some_iff.mp lowest).1 rfl
      · rw [answered]
        exact taken.land_reply reply

/-! ## Ticks and resets -/

/-- R111: with every context IDLE, both queues empty, no trunk-owned search and no frame, the law holds. -/
theorem board_of_idle (contexts : ∀ c, (t.context c).state = .idle) (received : t.trunk.received = [])
    (ready : t.trunk.ready = []) (searches : ∀ k c, ¬ SearchContext.runsFor (t.searchContext k) c)
    (done : ∀ k code r, t.searchContext k = .done code r → r.owner = .loc) (receiver : t.link.receiver = .waiting)
    (silent : t.link.transmitter = none) : Board none t where
  placed c _ := by
    have gone : Absent t c := by
      refine ⟨by simp [received], by simp [ready], fun k => searches k c, not_receivesInto ?_, not_sendsFrom silent⟩
      rw [receiver]
      exact nofun
    exact placed_of_absent gone (.inl (contexts c))
  absent := nofun
  received := received ▸ List.nodup_nil
  ready := ready ▸ List.nodup_nil
  done := done
  link := linkOk_of_silent silent fun _ => receiver

theorem idleTrunkSearch_runsFor (x : SearchContext) : ¬ SearchContext.runsFor (idleTrunkSearch x) c := by
  rcases x with _ | r | ⟨code, r⟩
  · exact not_runsFor_idle
  all_goals cases owner : r.owner <;> simp [idleTrunkSearch, owner, not_runsFor_of_loc, not_runsFor_idle, not_runsFor_done]

theorem idleTrunkSearch_done {x : SearchContext} {code : EndCode} {r : Search} (done : idleTrunkSearch x = .done code r) :
    r.owner = .loc := by
  rcases x with _ | q | ⟨_, q⟩
  · cases done
  · cases owner : q.owner <;> simp [idleTrunkSearch, owner] at done
  · cases owner : q.owner with
    | loc =>
      simp only [idleTrunkSearch, owner] at done
      cases done
      exact owner
    | trunk c => simp [idleTrunkSearch, owner] at done

theorem searchContext_enterFault (s : State) (k : Fin 4) :
    (enterFault s).searchContext k = idleTrunkSearch (s.searchContext k) := mapAll_get _ s.search k

theorem Board.settleFault (h : Board none s) : Board none (settleFault s) := by
  unfold Machine.settleFault
  split
  · refine board_of_idle (fun c => ?_) rfl rfl (fun k c => ?_) (fun k code r => ?_) rfl rfl
    · rw [context_enterFault]
      rfl
    · rw [searchContext_enterFault]
      exact idleTrunkSearch_runsFor _
    · rw [searchContext_enterFault]
      exact idleTrunkSearch_done
  · exact h

theorem Board.settleRelease (h : Board none s) : Board none (settleRelease s) := by
  unfold Machine.settleRelease
  split
  next due =>
    have fault : s.link.state = .fault := by
      rw [State.releaseDue, Bool.and_eq_true] at due
      exact of_decide_eq_true due.1
    obtain ⟨waits, silent⟩ := h.link.still (by rw [fault]; decide)
    exact h.setLink (fun _ => Iff.rfl) (fun _ => Iff.rfl) (linkOk_of_silent silent fun _ => waits)
  · exact h

theorem countDeadline_keeps (x : TrunkContext) :
    (countDeadline x).state = x.state ∧ (countDeadline x).linked = x.linked := by
  unfold countDeadline
  split <;> exact ⟨rfl, rfl⟩

theorem Board.settleTenMs (h : Board none s) : Board none (settleTenMs s) := by
  unfold Machine.settleTenMs
  split
  · refine h.congr_contexts (fun d _ => ?_) rfl rfl rfl rfl
    rw [context_tenMsEffect]
    exact countDeadline_keeps _
  · exact h

/-- R110, R112: a millisecond changes the low runs, or what the link saw of the lines. -/
theorem tickLink_keeps (tkc tkd : LineMs) (l : Link) :
    (tickLink tkc tkd l).state = l.state ∧ (tickLink tkc tkd l).receiver = l.receiver
      ∧ (tickLink tkc tkd l).transmitter = l.transmitter := by
  unfold tickLink
  split
  · exact ⟨rfl, rfl, rfl⟩
  · exact ⟨rfl, rfl, rfl⟩
  · exact ⟨rfl, rfl, rfl⟩

theorem Board.setTime (h : Board none s) (x : TimeBase) : Board none (s.setTime x) :=
  kept_of_keeps (board_congr none) (keeps_setTime x) rfl h

theorem Board.refclkPeriod (tkc tkd : LineMs) (h : Board none s) : Board none (refclkPeriod tkc tkd s) := by
  unfold Machine.refclkPeriod
  split
  · exact h
  · split
    · exact h.setTime _
    · obtain ⟨state, receiver, transmitter⟩ := tickLink_keeps tkc tkd s.link
      refine h.congr (fun _ _ => ⟨rfl, rfl⟩) rfl rfl (fun _ _ => Iff.rfl) h.done (fun d => ?_) (fun d => ?_) ⟨?_, ?_⟩
      · simp only [Link.receivesInto, receiver]
      · simp only [Link.sendsFrom, transmitter]
      · simpa only [state, receiver, transmitter] using h.link.still
      · simpa only [receiver, transmitter] using h.link.turns

theorem Board.msEffect (tkc tkd : LineMs) (h : Board none s) : Board none (msEffect tkc tkd s) := by
  refine Board.refclkPeriod tkc tkd ?_
  unfold fillDivider
  split
  · exact h
  · exact h.setTime _

theorem Board.idlePeriod (h : Board none s) : Board none (idlePeriod s) := by
  unfold Machine.idlePeriod
  extract_lets lines
  split
  · exact (h.setTime _).refclkPeriod _ _
  · exact h.refclkPeriod _ _

theorem idleLocalSearch_runsFor (x : SearchContext) :
    SearchContext.runsFor (idleLocalSearch x) c ↔ SearchContext.runsFor x c := by
  rcases x with _ | r | ⟨code, r⟩
  · exact Iff.rfl
  all_goals cases owner : r.owner <;> simp [idleLocalSearch, owner, not_runsFor_of_loc, not_runsFor_idle, not_runsFor_done]

theorem idleLocalSearch_done {x : SearchContext} {code : EndCode} {r : Search} (done : idleLocalSearch x = .done code r) :
    x = .done code r := by
  obtain same | idle := idleLocalSearch_idles x
  · rwa [same] at done
  · rw [idle] at done
    cases done

theorem searchContext_hostCleared (s : State) (k : Fin 4) :
    (hostCleared s).searchContext k = idleLocalSearch (s.searchContext k) := mapAll_get _ s.search k

theorem Board.hostCleared (h : Board none s) : Board none (hostCleared s) := by
  refine h.congr (fun _ _ => ⟨rfl, rfl⟩) rfl rfl (fun d k => ?_) (fun k code r done => ?_) (fun _ => Iff.rfl)
    (fun _ => Iff.rfl) h.link
  · rw [searchContext_hostCleared]
    exact idleLocalSearch_runsFor _
  · rw [searchContext_hostCleared] at done
    exact h.done k code r (idleLocalSearch_done done)

theorem Board.hostResetEffect (h : Board none s) : Board none (hostResetEffect s) := by
  rw [hostResetEffect_eq]
  exact h.answerDeferred.hostCleared

theorem Board.writeDoze (v : Byte) (h : Board none s) : Board none (writeDoze v s) :=
  kept_of_keeps (board_congr none) (keeps_storePower _ _ _) rfl h.answerDeferred

theorem board_reset (s : State) : Board none (after .fullReset s) := by
  have searches (k : Fin 4) : (after .fullReset s).searchContext k = .idle := Vector.getElem_replicate _
  refine board_of_idle (fun c => ?_) rfl rfl (fun k c => ?_) (fun k code r => ?_) rfl rfl
  · change (TrunkUnit.reset.contexts[c]).state = .idle
    revert c
    decide
  · rw [searches]
    exact not_runsFor_idle
  · rw [searches]
    exact nofun

theorem board_kept : KeptByRows (Board none) where
  queue _ _ h := h.congr_contexts (fun _ _ => ⟨rfl, rfl⟩) rfl rfl rfl rfl
  reset := board_reset
  fault _ := Board.settleFault
  release _ := Board.settleRelease
  tenMs _ := Board.settleTenMs
  expiry _ := Board.settleExpiry
  second _ := kept_of_keeps (board_congr none) keeps_settleSecond rfl
  period _ := Board.idlePeriod
  row i other s h := by
    cases i with
    | fullReset | trunkFault | faultRelease | tenMsTick | deadlineExpiry | secondTick => exact absurd (by decide) other
    | hostReset => exact kept_hostReset h Board.hostResetEffect
    | msTick tkc tkd => exact h.msEffect tkc tkd
    | powerDoze v => exact kept_portWrite (write := writeDoze v) h (Board.writeDoze v)
    | startCondition => exact h.startEffect
    | restartCondition => exact h.restartEffect
    | stopCondition => exact h.stopEffect
    | receiveByte v => exact h.receiveEffect v
    | replySendStart => exact h.sendStart
    | sendByteAck acknowledged => exact h.ackEffect acknowledged
    | arbitrationLost bit => exact h.lostEffect bit
    | answer => exact Board.commandGrant (perform := performAnswer) Board.performAnswer h
    | searchStart => exact Board.commandGrant (perform := performSearchStart) Board.performSearchStart h
    | searchCancel => exact Board.commandGrant (perform := performSearchCancel) Board.performSearchCancel h
    | searchRelease => exact Board.commandGrant (perform := performSearchRelease) Board.performSearchRelease h
    | announce => exact Board.trunkGrant answers_selectAnnounce rfl h
    | refresh => exact Board.trunkGrant answers_selectRefresh rfl h
    | withdraw => exact Board.trunkGrant answers_selectWithdraw rfl h
    | seek => exact h.seek
    | fetch => exact Board.trunkGrant answers_selectFetch rfl h
    | postAttr => exact Board.trunkGrant answers_selectPostAttr rfl h
    | trunkDropAttr => exact Board.trunkGrant answers_selectDropAttr rfl h
    | claim => exact Board.trunkGrant answers_selectClaim rfl h
    | yield => exact Board.trunkGrant answers_selectYield rfl h
    | reject => exact Board.trunkGrant answers_selectReject rfl h
    | searchStep => exact h.searchGrant
    | _ => exact kept_of_untouched (board_congr none) _ rfl h

/-- Settles O60: every row moves at most one context at a time, from one place on the board to another. -/
theorem everyStepKeepsTheTrunkLaw : Obligations.EveryStepKeepsTheTrunkLaw := board_kept.step_of_iff trunkInv_iff

end Sys2Proof.Proofs
end

section
/-! PROOFS. The law of the directory, entry by entry (R7, R8, R14 to R18): what an operation writes is a sound entry of the
same tag. -/

namespace Sys2Proof.Proofs

open Sys2Proof.Machine Sys2Proof.Laws

variable {e d : Entry} {l : List Attr} {a b : Attr} {id : Byte} {p : Params}

/-! ## Attribute lists (R17) -/

/-- R17: ids strictly ascending. -/
abbrev idsAscending (l : List Attr) : Prop := l.Pairwise fun x y => x.id.toNat < y.id.toNat

theorem mem_putPair (ascending : idsAscending l) : b ∈ putPair a l ↔ b = a ∨ (b ∈ l ∧ b.id ≠ a.id) := by
  induction l with
  | nil => simp [putPair]
  | cons c rest ih =>
    obtain ⟨above, ascending⟩ := List.pairwise_cons.mp ascending
    have later (mem : b ∈ rest) : c.id ≠ b.id := fun same => absurd (above b mem) (by simp [same])
    rw [putPair]
    split
    next same =>
      rw [List.mem_cons, List.mem_cons, same]
      constructor
      · rintro (rfl | mem)
        · exact .inl rfl
        · exact .inr ⟨.inr mem, (later mem).symm⟩
      · rintro (rfl | ⟨rfl | mem, other⟩)
        · exact .inl rfl
        · exact absurd rfl other
        · exact .inr mem
    next differ =>
      split
      next below =>
        rw [List.mem_cons]
        refine or_congr_right ⟨fun mem => ⟨mem, fun same => ?_⟩, And.left⟩
        rcases List.mem_cons.mp mem with rfl | mem
        · exact differ same.symm
        · have := above b mem
          rw [same] at this
          omega
      next =>
        rw [List.mem_cons, List.mem_cons, ih ascending]
        constructor
        · rintro (rfl | rfl | ⟨mem, other⟩)
          · exact .inr ⟨.inl rfl, Ne.symm differ⟩
          · exact .inl rfl
          · exact .inr ⟨.inr mem, other⟩
        · rintro (rfl | ⟨rfl | mem, other⟩)
          · exact .inr (.inl rfl)
          · exact .inl rfl
          · exact .inr (.inr ⟨mem, other⟩)

theorem ascending_putPair (ascending : idsAscending l) : idsAscending (putPair a l) := by
  induction l with
  | nil => exact List.pairwise_singleton _ _
  | cons c rest ih =>
    obtain ⟨above, later⟩ := List.pairwise_cons.mp ascending
    rw [putPair]
    split
    next same => exact List.pairwise_cons.mpr ⟨fun b mem => same ▸ above b mem, later⟩
    next differ =>
      split
      next below =>
        refine List.pairwise_cons.mpr ⟨fun b mem => ?_, ascending⟩
        rcases List.mem_cons.mp mem with rfl | mem
        · exact below
        · exact Nat.lt_trans below (above b mem)
      next notBelow =>
        refine List.pairwise_cons.mpr ⟨fun b mem => ?_, ih later⟩
        rcases (mem_putPair later).mp mem with rfl | ⟨mem, -⟩
        · have : c.id.toNat ≠ b.id.toNat := fun same => differ (BitVec.eq_of_toNat_eq same.symm)
          omega
        · exact above b mem

theorem hasPair_iff : hasPair id l = true ↔ ∃ b ∈ l, b.id = id := by simp [hasPair]

theorem length_putPair_le : (putPair a l).length ≤ l.length + 1 := by
  induction l with
  | nil => exact Nat.le_refl 1
  | cons c rest ih =>
    rw [putPair]
    split
    · simp
    · split
      · simp
      · simpa using ih

/-- R42: the value of a pair that is there is replaced. -/
theorem length_putPair_of_has (ascending : idsAscending l) (has : hasPair a.id l = true) :
    (putPair a l).length = l.length := by
  induction l with
  | nil => cases has
  | cons c rest ih =>
    obtain ⟨above, later⟩ := List.pairwise_cons.mp ascending
    obtain ⟨b, mem, same⟩ := hasPair_iff.mp has
    rw [putPair]
    split
    · rfl
    next differ =>
      have inRest : b ∈ rest := (List.mem_cons.mp mem).resolve_left fun head => differ (head ▸ same.symm)
      have := above b inRest
      rw [same] at this
      rw [if_neg (by omega)]
      simp [ih later (hasPair_iff.mpr ⟨b, inRest, same⟩)]

theorem attrsOk_put (ok : e.attrsOk) (inside : 1 ≤ a.id.toNat ∧ a.id.toNat ≤ 254)
    (room : ¬(hasPair a.id e.attrs = false ∧ 6 ≤ e.attrs.length)) : Entry.attrsOk { e with attrs := putPair a e.attrs } := by
  obtain ⟨few, ascending, ids⟩ := ok
  refine ⟨?_, ascending_putPair ascending, fun b mem => ?_⟩
  · cases has : hasPair a.id e.attrs with
    | true => exact Nat.le_trans (Nat.le_of_eq (length_putPair_of_has ascending has)) few
    | false =>
      have short : ¬6 ≤ e.attrs.length := fun full => room ⟨has, full⟩
      exact Nat.le_trans length_putPair_le (by omega)
  · rcases (mem_putPair ascending).mp mem with rfl | ⟨mem, -⟩
    · exact inside
    · exact ids b mem

theorem attrsOk_drop (ok : e.attrsOk) : Entry.attrsOk { e with attrs := dropPair id e.attrs } := by
  obtain ⟨few, ascending, ids⟩ := ok
  have sub : List.Sublist (dropPair id e.attrs) e.attrs := List.filter_sublist
  exact ⟨Nat.le_trans sub.length_le few, ascending.sublist sub, fun b mem => ids b (sub.subset mem)⟩

/-- R191: the ids of a preset that is judged good. -/
theorem ascending_of_idsAscend (judged : idsAscend l = true) :
    idsAscending l ∧ ∀ a ∈ l, 1 ≤ a.id.toNat ∧ a.id.toNat ≤ 254 := by
  induction l with
  | nil => exact ⟨List.Pairwise.nil, nofun⟩
  | cons a rest ih =>
    cases rest with
    | nil =>
      rw [idsAscend, Bool.and_eq_true, decide_eq_true_eq, decide_eq_true_eq] at judged
      exact ⟨List.pairwise_singleton _ _, fun b mem => List.mem_singleton.mp mem ▸ judged⟩
    | cons b rest =>
      simp only [idsAscend, Bool.and_eq_true, decide_eq_true_eq] at judged
      obtain ⟨⟨low, below⟩, judged⟩ := judged
      obtain ⟨ascending, ids⟩ := ih judged
      have next := ids b List.mem_cons_self
      refine ⟨List.pairwise_cons.mpr ⟨fun c mem => ?_, ascending⟩, fun c mem => ?_⟩
      · rcases List.mem_cons.mp mem with rfl | mem
        · exact below
        · exact Nat.lt_trans below ((List.pairwise_cons.mp ascending).1 c mem)
      · rcases List.mem_cons.mp mem with rfl | mem
        · exact ⟨low, by omega⟩
        · exact ids c mem

/-! ## What an operation writes -/

/-- `d` may take the place of `e`: it is sound, of the same tag, and counts for tag equality only if `e` did. -/
structure Follows (e d : Entry) : Prop where
  ok : d.ok
  tag : d.tag = e.tag
  counts : d.countsForTag = true → e.countsForTag = true

theorem marked_eq (m : Mark) (d : Entry) :
    d.marked m = { d with marks := if d.watch then d.marks.add m else d.marks } := by
  unfold Entry.marked
  split <;> rfl

theorem retired_add (m : Mark) (marks : Marks) (retired : marks.retired = true) : (marks.add m).retired = true := by
  cases m <;> simp [Marks.add, retired]

/-- R161: a mark offered leaves a sound entry sound. -/
theorem ok_marked (m : Mark) (ok : d.ok) : (d.marked m).ok := by
  obtain ⟨short, long, times, attrs, lease, lock, unwatched, spent⟩ := ok
  rw [marked_eq]
  refine ⟨short, long, times, attrs, lease, lock, fun off => ?_, fun isSpent => ⟨(spent isSpent).1, ?_⟩⟩
  · have off : d.watch = false := off
    simp [off, unwatched off]
  · split
    · exact retired_add m _ (spent isSpent).2
    · exact (spent isSpent).2

theorem Follows.marked (m : Mark) (h : Follows e d) : Follows e (d.marked m) := by
  obtain ⟨ok, tag, counts⟩ := h
  refine ⟨ok_marked m ok, ?_, ?_⟩
  · rw [marked_eq]
    exact tag
  · rw [Entry.countsForTag, life_marked]
    exact counts

theorem Follows.marked_if (offered : Bool) (m : Mark) (h : Follows e d) :
    Follows e (if offered then d.marked m else d) := by
  cases offered with
  | true => exact h.marked m
  | false => exact h

theorem countsForTag_of_unspent (unspent : e.life.isSpent = false) : e.countsForTag = true := by
  simp [Entry.countsForTag, unspent]

theorem life_ne_spent (unspent : e.life.isSpent = false) : e.life ≠ .spent := fun spent => by
  simp [spent, Life.isSpent] at unspent

/-- R45: a retirement under WATCH leaves a SPENT entry without lock, marked RETIRED. -/
theorem follows_retired (ok : e.ok) (watched : e.watch = true) :
    Follows e (Entry.marked { e with lock := none, life := .spent } .retired) := by
  obtain ⟨short, long, times, attrs, lease, -, unwatched, -⟩ := ok
  rw [marked_eq]
  refine ⟨⟨short, long, ⟨times.1, trivial⟩, attrs, lease, nofun, fun off => ?_, fun _ => ⟨rfl, ?_⟩⟩, rfl, nofun⟩
  · exact absurd watched (Bool.eq_false_iff.mp off)
  · simp [watched, Marks.add]

/-- R14, R40: LIVE with a lease that starts afresh. -/
theorem timesOk_restarted (lease : ∀ n, e.leaseLength = some n → 1 ≤ n ∧ n ≤ 65535) : e.restarted.timesOk := by
  refine ⟨lease, ?_⟩
  cases length : e.leaseLength with
  | none => simp [Entry.restarted, length]
  | some n => simpa [Entry.restarted, length] using (lease n length).1

theorem lease_toNat {lease : Half} {n : Nat} (asked : (if lease = 0 then none else some lease.toNat) = some n) :
    1 ≤ n ∧ n ≤ 65535 := by
  split at asked
  · cases asked
  next positive =>
    cases asked
    have : lease.toNat ≠ 0 := fun zero => positive (BitVec.eq_of_toNat_eq zero)
    have := lease.isLt
    omega

/-- R34: the granted lease lies in the range of leases. -/
theorem grantedLease_range (params : p.inRange = true) (r : Nat) : 1 ≤ grantedLease p r ∧ grantedLease p r ≤ 65535 := by
  obtain ⟨-, -, low, order, high, -⟩ := inRange_iff.mp params
  unfold grantedLease
  split
  · omega
  · split <;> omega

/-- R75: the granted hold lies in the range of holds. -/
theorem grantedHold_range (params : p.inRange = true) {hold : Byte} (positive : hold ≠ 0) :
    1 ≤ grantedHold p hold.toNat ∧ grantedHold p hold.toNat ≤ 255 := by
  obtain ⟨-, -, -, -, -, -, low, high, -⟩ := inRange_iff.mp params
  have : hold.toNat ≠ 0 := fun zero => positive (BitVec.eq_of_toNat_eq zero)
  unfold grantedHold
  split <;> omega

theorem follows_amended {cls : Byte} {reach : Option Byte} {visibility : Visibility} {watch wake : Bool} {lease : Half}
    (ok : e.ok) (unspent : e.life.isSpent = false) (leased : ¬(lease = 0 ∧ e.origin ≠ .loc)) :
    Follows e (amended e cls reach visibility watch wake lease) := by
  obtain ⟨short, long, times, attrs, -, lock, unwatched, -⟩ := ok
  have restarted : (amended e cls reach visibility watch wake lease).timesOk :=
    timesOk_restarted (e := amended e cls reach visibility watch wake lease) fun n => lease_toNat
  refine ⟨⟨short, long, restarted, attrs, fun trunk => ?_, lock, fun off => ?_, nofun⟩, rfl, fun _ =>
    countsForTag_of_unspent unspent⟩
  · have length : (amended e cls reach visibility watch wake lease).leaseLength = some lease.toNat :=
      if_neg fun zero => leased ⟨zero, trunk⟩
    simp [length]
  · have off : watch = false := off
    cases before : e.watch with
    | true => simp [amended, off, before, Marks.none_]
    | false => simp [amended, before, unwatched before]

theorem follows_reannounced {cls n : Byte} {visibility : Visibility} {g : Nat} (ok : e.ok) (counts : e.countsForTag = true)
    (range : 1 ≤ g ∧ g ≤ 65535) :
    Follows e { e with cls := cls, visibility := visibility, reach := some n, leaseLength := some g, life := .live (some g) } := by
  obtain ⟨short, long, -, attrs, -, lock, unwatched, -⟩ := ok
  refine ⟨⟨short, long, ⟨fun m => ?_, range.1, g, rfl, Nat.le_refl g⟩, attrs, nofun, lock, unwatched, nofun⟩, rfl, fun _ => counts⟩
  rintro ⟨⟩
  exact range

theorem follows_restarted (ok : e.ok) (unspent : e.life.isSpent = false) : Follows e e.restarted := by
  obtain ⟨short, long, times, attrs, lease, lock, unwatched, -⟩ := ok
  exact ⟨⟨short, long, timesOk_restarted times.1, attrs, lease, lock, unwatched, nofun⟩, rfl,
    fun _ => countsForTag_of_unspent unspent⟩

theorem follows_attrs (ok : e.ok) (attrs : Entry.attrsOk { e with attrs := l }) : Follows e { e with attrs := l } := by
  obtain ⟨short, long, times, -, rest⟩ := ok
  exact ⟨⟨short, long, times, attrs, rest⟩, rfl, id⟩

/-- R75: a lock is set on an entry that is not SPENT. -/
theorem follows_locked {k : Lock} (ok : e.ok) (unspent : e.life.isSpent = false) (lapse : 1 ≤ k.lapse ∧ k.lapse ≤ 255) :
    Follows e { e with lock := some k } := by
  obtain ⟨short, long, times, attrs, lease, -, unwatched, -⟩ := ok
  refine ⟨⟨short, long, times, attrs, lease, fun j => ?_, unwatched, fun spent => absurd spent (life_ne_spent unspent)⟩, rfl, id⟩
  rintro ⟨⟩
  exact lapse

theorem follows_unlocked (ok : e.ok) : Follows e { e with lock := none } := by
  obtain ⟨short, long, times, attrs, lease, -, unwatched, spent⟩ := ok
  exact ⟨⟨short, long, times, attrs, lease, nofun, unwatched, fun isSpent => ⟨rfl, (spent isSpent).2⟩⟩, rfl, id⟩

/-- R166: the marks of an entry that stays are emptied. -/
theorem follows_emptied (ok : e.ok) (kept : e.life ≠ .spent) : Follows e { e with marks := Marks.none_ } := by
  obtain ⟨short, long, times, attrs, lease, lock, -, -⟩ := ok
  exact ⟨⟨short, long, times, attrs, lease, lock, fun _ => rfl, fun spent => absurd spent kept⟩, rfl, id⟩

/-! ## The sweep (R61 to R64) -/

theorem Follows.trans {x : Entry} (h : Follows e d) (k : Follows d x) : Follows e x :=
  ⟨k.ok, k.tag.trans h.tag, fun counts => h.counts (k.counts counts)⟩

theorem follows_life {life : Life} (ok : e.ok) (unspent : e.life.isSpent = false) (left : life ≠ .spent)
    (times : Entry.timesOk { e with life := life }) : Follows e { e with life := life } := by
  obtain ⟨short, long, -, attrs, lease, lock, unwatched, -⟩ := ok
  exact ⟨⟨short, long, times, attrs, lease, lock, unwatched, fun spent => absurd spent left⟩, rfl,
    fun _ => countsForTag_of_unspent unspent⟩

/-- R61: a lock that does not lapse keeps at least a second. -/
theorem follows_lockSwept (q : Nat) (ok : e.ok) (unspent : e.life.isSpent = false) : Follows e (lockSwept q e) := by
  have charged : Follows e (lockCharged q e) := by
    unfold lockCharged
    cases held : e.lock with
    | none => simpa using follows_unlocked ok
    | some k =>
      split
      · exact follows_unlocked ok
      next lasts =>
        have ⟨_, _, _, _, _, lock, _⟩ := ok
        have long := (lock k held).2
        have lasts : ¬k.lapse ≤ q := by simpa [lockLapses, held] using lasts
        exact follows_locked (k := { k with lapse := k.lapse - q }) ok unspent (by dsimp only; omega)
  exact charged.marked_if (lockLapses q e) .lockLapsed

theorem follows_lifeSwept {q grace : Nat} (small : grace ≤ 255) (ok : e.ok) (unspent : e.life.isSpent = false)
    (left : lifeSwept q grace e = some d) : Follows e d := by
  have times := ok.2.2.1
  unfold lifeSwept at left
  cases life : e.life with
  | spent => simp [life, Life.isSpent] at unspent
  | live lease =>
    cases lease with
    | none =>
      simp only [life] at left
      cases left
      exact ⟨ok, rfl, id⟩
    | some r =>
      simp only [life] at left
      obtain ⟨lease, remaining⟩ := times
      rw [life] at remaining
      obtain ⟨positive, n, length, within⟩ := remaining
      split at left
      · cases left
        exact (follows_life (life := .stale grace) ok unspent nofun ⟨lease, small⟩).marked .stale
      next lasts =>
        cases left
        exact follows_life ok unspent nofun ⟨lease, by omega, n, length, by omega⟩
  | stale g =>
    simp only [life] at left
    obtain ⟨lease, remaining⟩ := times
    rw [life] at remaining
    split at left
    · cases left
      exact follows_life ok unspent nofun ⟨lease, Nat.le_trans (Nat.sub_le g q) remaining⟩
    next ends =>
      split at left
      next watched =>
        cases left
        have unlocked : e.lock = none := by
          rw [not_or, Option.not_isSome_iff_eq_none] at ends
          exact ends.1
        have same : { e with life := .spent } = { e with lock := none, life := .spent } := by rw [← unlocked]
        rw [same]
        exact follows_retired ok watched
      · cases left

theorem follows_swept {q grace : Nat} (small : grace ≤ 255) (ok : e.ok) (left : e.swept q grace = some d) :
    Follows e d := by
  cases unspent : e.life.isSpent with
  | true =>
    rw [swept_of_spent unspent] at left
    cases left
    exact ⟨ok, rfl, id⟩
  | false =>
    rw [swept_of_not_spent (by simp [unspent])] at left
    have first := follows_lockSwept q ok unspent
    exact first.trans (follows_lifeSwept small first.ok (by rw [life_lockSwept]; exact unspent) left)

/-! ## New entries -/

theorem ok_created {tag : List Byte} {cls : Byte} {reach : Option Byte} {visibility : Visibility} {watch wake : Bool}
    {lease : Half} (length : 1 ≤ tag.length ∧ tag.length ≤ 16) :
    (createdEntry tag cls reach visibility watch wake lease).ok := by
  have restarted : (createdEntry tag cls reach visibility watch wake lease).timesOk :=
    timesOk_restarted (e := createdEntry tag cls reach visibility watch wake lease) fun n => lease_toNat
  exact ⟨length.1, length.2, restarted, ⟨Nat.zero_le 6, List.Pairwise.nil, nofun⟩, fun trunk => absurd rfl trunk, nofun,
    fun _ => rfl, nofun⟩

theorem ok_announced {n : Byte} {tag : List Byte} {cls : Byte} {v : Visibility} {g : Nat}
    (length : 1 ≤ tag.length ∧ tag.length ≤ 16) (range : 1 ≤ g ∧ g ≤ 65535) : (announcedEntry n tag cls v g p).ok := by
  refine ⟨length.1, length.2, ⟨fun m => ?_, range.1, g, rfl, Nat.le_refl g⟩, ⟨Nat.zero_le 6, List.Pairwise.nil, nofun⟩, nofun,
    nofun, fun _ => rfl, nofun⟩
  rintro ⟨⟩
  exact range

theorem ok_preset {q : Preset} (judged : presetEntry q = some e) : e.ok := by
  unfold presetEntry at judged
  split at judged
  next tests =>
    obtain ⟨short, long, few, ids⟩ := tests
    obtain ⟨ascending, inside⟩ := ascending_of_idsAscend ids
    split at judged
    · cases judged
      exact ⟨short, long, ⟨nofun, rfl⟩, ⟨few, ascending, inside⟩, fun trunk => absurd rfl trunk, nofun, fun _ => rfl, nofun⟩
    · cases judged
  · cases judged

end Sys2Proof.Proofs
end

section
/-! PROOFS. Every step keeps the law of the directory (R4, R9, R20). -/

namespace Sys2Proof.Proofs

open Sys2Proof.Machine Sys2Proof.Laws

variable {s t u : State} {e d : Entry} {i j : SlotNo}

/-! ## What the operations on slots keep -/

/-- The law of the directory, without the parameters. -/
structure DirectoryOk (s : State) : Prop where
  once : s.dir.free.Nodup
  free : ∀ i, i ∈ s.dir.free ↔ s.entryOf i = none
  generation : ∀ i, s.entryOf i ≠ none → (s.slot i).generation ≠ 0
  tags : tagsInv s
  entries : ∀ i e, s.entryOf i = some e → e.ok

theorem directoryInv_iff (s : State) : directoryInv s ↔ paramsOk s ∧ DirectoryOk s := by
  constructor
  · rintro ⟨⟨once, free⟩, generation, tags, entries, params⟩
    exact ⟨params, once, free, generation, tags, entries⟩
  · rintro ⟨params, once, free, generation, tags, entries⟩
    exact ⟨⟨once, free⟩, generation, tags, entries, params⟩

theorem DirectoryOk.of_slots (h : DirectoryOk s) (slots : t.dir.slots = s.dir.slots) (queue : t.dir.free = s.dir.free) :
    DirectoryOk t := by
  have slots (i : SlotNo) : t.slot i = s.slot i := by simp only [State.slot, slots]
  have entries (i : SlotNo) : t.entryOf i = s.entryOf i := by simp only [State.entryOf, slots]
  obtain ⟨once, free, generation, tags, sound⟩ := h
  refine ⟨queue ▸ once, fun i => ?_, fun i => ?_, ?_, fun i => ?_⟩
  · rw [queue, entries]
    exact free i
  · rw [entries, slots]
    exact generation i
  · simpa only [tagsInv, entries] using tags
  · rw [entries]
    exact sound i

theorem DirectoryOk.of_dir (h : DirectoryOk s) (dir : t.dir = s.dir) : DirectoryOk t :=
  h.of_slots (congrArg Directory.slots dir) (congrArg Directory.free dir)

/-- R24: the collect cursor is of no concern. -/
theorem DirectoryOk.setCursor (h : DirectoryOk s) (k : SlotNo) : DirectoryOk (s.setDir { s.dir with collectCursor := k }) :=
  h.of_slots rfl rfl

theorem directoryOk_congr (s t : State) (same : ∀ a ∈ [Aspect.dir], a.kept s t) (h : DirectoryOk s) : DirectoryOk t :=
  h.of_dir (same .dir (by simp))

/-- R20, R22: a slot in use is left with an entry that may follow the one it held, or FREE at the tail of the free list. -/
theorem DirectoryOk.left (h : DirectoryOk s) {x : Option Entry} (held : s.entryOf i = some e)
    (slot : t.slot i = { s.slot i with entry := x }) (others : ∀ j, j ≠ i → t.slot j = s.slot j)
    (queue : t.dir.free = s.dir.free ++ if x.isNone then [i] else []) (follows : ∀ d, x = some d → Follows e d) :
    DirectoryOk t := by
  obtain ⟨once, free, generation, tags, sound⟩ := h
  have here : t.entryOf i = x := congrArg Slot.entry slot
  have there (j : SlotNo) (other : j ≠ i) : t.entryOf j = s.entryOf j := congrArg Slot.entry (others j other)
  have inUse : i ∉ s.dir.free := fun mem => by simp [(free i).mp mem] at held
  /- An entry that counts for its tag counted for it before. -/
  have before (j : SlotNo) (d : Entry) (now : t.entryOf j = some d) (counts : d.countsForTag = true) :
      ∃ b, s.entryOf j = some b ∧ b.countsForTag = true ∧ d.tag = b.tag := by
    by_cases same : j = i
    · subst same
      have ⟨_, tag, counted⟩ := follows d (here ▸ now)
      exact ⟨e, held, counted counts, tag⟩
    · exact ⟨d, there j same ▸ now, counts, rfl⟩
  refine ⟨?_, fun j => ?_, fun j used => ?_, fun j k a b atJ atK countsA countsB equal => ?_, fun j d now => ?_⟩
  · rw [queue]
    split
    · exact nodup_append_singleton once inUse
    · rwa [List.append_nil]
  · rw [queue, List.mem_append]
    by_cases same : j = i
    · subst same
      rw [here]
      cases x <;> simp [inUse]
    · rw [there j same, free j]
      cases x <;> simp [same]
  · by_cases same : j = i
    · subst same
      rw [slot]
      exact generation j (by simp [held])
    · rw [others j same]
      exact generation j (there j same ▸ used)
  · obtain ⟨a', beforeA, countedA, tagA⟩ := before j a atJ countsA
    obtain ⟨b', beforeB, countedB, tagB⟩ := before k b atK countsB
    exact tags j k a' b' beforeA beforeB countedA countedB (tagA ▸ tagB ▸ equal)
  · by_cases same : j = i
    · subst same
      exact (follows d (here ▸ now)).ok
    · exact sound j d (there j same ▸ now)

theorem DirectoryOk.rewrites (h : DirectoryOk s) (held : s.entryOf i = some e) (written : rewritesEntry i d s t)
    (follows : Follows e d) : DirectoryOk t := by
  obtain ⟨slot, ⟨others, -⟩, free⟩ := written
  refine h.left held slot (fun j other => others j (by simpa using other)) (by simpa using free) ?_
  rintro _ ⟨⟩
  exact follows

theorem DirectoryOk.setEntry (h : DirectoryOk s) (held : s.entryOf i = some e) (follows : Follows e d) :
    DirectoryOk (s.setEntry i d) := h.rewrites held (rewritesEntry_of_dir s rfl rfl) follows

/-- An entry is rewritten and, if `offered`, a mark offered to it. -/
theorem DirectoryOk.setEntry_addMark_if (h : DirectoryOk s) (offered : Bool) (m : Mark) (held : s.entryOf i = some e)
    (follows : Follows e d) : DirectoryOk (if offered then addMark i m (s.setEntry i d) else s.setEntry i d) := by
  obtain ⟨written, -⟩ := Proofs.setEntry_addMark_if (s := s) offered i m d
  exact h.rewrites held written (follows.marked_if offered m)

theorem DirectoryOk.addMark (h : DirectoryOk s) (i : SlotNo) (m : Mark) : DirectoryOk (addMark i m s) := by
  cases held : s.entryOf i with
  | none =>
    rw [Machine.addMark, held]
    exact h
  | some e =>
    exact h.rewrites held (addMark_effect s i m e held).1 (Follows.marked m ⟨h.entries i e held, rfl, id⟩)

theorem freeSlot_free (i : SlotNo) (s : State) : (freeSlot i s).dir.free = s.dir.free ++ [i] := rfl

theorem DirectoryOk.freeSlot (h : DirectoryOk s) (held : s.entryOf i = some e) : DirectoryOk (freeSlot i s) := by
  refine h.left (x := none) held ?_ (fun j other => ?_) ?_ (fun d left => ?_)
  · rw [slot_freeSlot_self]
  · rw [slot_freeSlot_of_ne s (Ne.symm other)]
  · rw [freeSlot_free, Option.isNone_none, if_pos rfl]
  · cases left

theorem DirectoryOk.retireSide (h : DirectoryOk s) (held : s.entryOf i = some e) : DirectoryOk (retireSide i e s) := by
  obtain ⟨free, slot, ⟨others, -⟩, -⟩ := retireSide_spec (s := s) i e
  refine h.left held slot (fun j other => others j (by simpa using other)) ?_ fun d left => ?_
  · rw [free]
    cases e.watch <;> simp
  · split at left
    next watched =>
      cases left
      exact follows_retired (h.entries i e held) watched
    · cases left

theorem nextGeneration_ne_zero (g : Byte) : nextGeneration g ≠ 0 := by
  unfold nextGeneration
  split
  · decide
  next notLast => bv_omega

/-- R9, R21: the head of the free list becomes a sound entry whose tag is not taken. -/
theorem DirectoryOk.allocate (h : DirectoryOk s) (allocated : allocate e s = some (t, i)) (ok : e.ok)
    (fresh : ¬tagTaken e.tag s) : DirectoryOk t := by
  obtain ⟨queue, slot, others, -, -⟩ := allocate_spec s e t i allocated
  obtain ⟨once, free, generation, tags, sound⟩ := h
  rw [queue] at once
  obtain ⟨gone, once⟩ := List.nodup_cons.mp once
  have here : t.entryOf i = some e := congrArg Slot.entry slot
  have there (j : SlotNo) (other : j ≠ i) : t.entryOf j = s.entryOf j := congrArg Slot.entry (others j other)
  refine ⟨once, fun j => ?_, fun j used => ?_, fun j k a b atJ atK countsA countsB equal => ?_, fun j d now => ?_⟩
  · by_cases same : j = i
    · subst same
      simp [here, gone]
    · rw [there j same, ← free j, queue]
      simp [same]
  · by_cases same : j = i
    · subst same
      rw [slot]
      exact nextGeneration_ne_zero _
    · rw [others j same]
      exact generation j (there j same ▸ used)
  · by_cases sameJ : j = i <;> by_cases sameK : k = i
    · exact sameJ.trans sameK.symm
    · subst sameJ
      rw [here] at atJ
      cases atJ
      exact absurd ⟨k, b, there k sameK ▸ atK, countsB, equal.symm⟩ fresh
    · subst sameK
      rw [here] at atK
      cases atK
      exact absurd ⟨j, a, there j sameJ ▸ atJ, countsA, equal⟩ fresh
    · exact tags j k a b (there j sameJ ▸ atJ) (there k sameK ▸ atK) countsA countsB equal
  · by_cases same : j = i
    · subst same
      rw [here] at now
      cases now
      exact ok
    · exact sound j d (there j same ▸ now)

/-- Each entry is replaced by one that may follow it. -/
theorem DirectoryOk.map (h : DirectoryOk s) {f : Entry → Entry}
    (slots : ∀ i, t.slot i = { s.slot i with entry := (s.entryOf i).map f }) (queue : t.dir.free = s.dir.free)
    (follows : ∀ e, e.ok → Follows e (f e)) : DirectoryOk t := by
  obtain ⟨once, free, generation, tags, sound⟩ := h
  have entries (i : SlotNo) : t.entryOf i = (s.entryOf i).map f := congrArg Slot.entry (slots i)
  have before (j : SlotNo) (d : Entry) (now : t.entryOf j = some d) : ∃ b, s.entryOf j = some b ∧ Follows b d := by
    rw [entries] at now
    obtain ⟨b, held, rfl⟩ := Option.map_eq_some_iff.mp now
    exact ⟨b, held, follows b (sound j b held)⟩
  refine ⟨queue ▸ once, fun j => ?_, fun j used => ?_, fun j k a b atJ atK countsA countsB equal => ?_, fun j d now => ?_⟩
  · rw [queue, free, entries, Option.map_eq_none_iff]
  · rw [slots]
    rw [entries, Ne, Option.map_eq_none_iff] at used
    exact generation j used
  · obtain ⟨a', beforeA, _, tagA, countedA⟩ := before j a atJ
    obtain ⟨b', beforeB, _, tagB, countedB⟩ := before k b atK
    exact tags j k a' b' beforeA beforeB (countedA countsA) (countedB countsB) (tagA ▸ tagB ▸ equal)
  · obtain ⟨b, -, sound, -⟩ := before j d now
    exact sound

end Sys2Proof.Proofs
end

section
/-! PROOFS. Every step keeps the law of the directory, row by row. -/

namespace Sys2Proof.Proofs

open Sys2Proof.Machine Sys2Proof.Laws

variable {s t u : State} {e d : Entry} {i j : SlotNo} {h : Handle} {who : Party} {force : Bool}

/-! ## Commands -/

theorem entryOf_of_lookup (found : s.lookup h = some (i, e)) : s.entryOf i = some e :=
  ((lookup_eq_some_iff h i e).mp found).2

/-- A Command grant keeps the law if performing its command does. -/
theorem DirectoryOk.commandGrant {accepts : Byte → Bool} {perform : CommandSlot → State → Completion}
    (performed : ∀ c u, paramsOk u → DirectoryOk u → DirectoryOk (perform c u).state) (params : paramsOk s)
    (ok : DirectoryOk s) : DirectoryOk (commandGrant accepts perform s) := by
  unfold Machine.commandGrant
  split
  · exact ok
  next n _ =>
    split
    · have taken := performed (s.commandSlot n) (takeCommand s) params (ok.of_dir rfl)
      exact kept_of_keeps directoryOk_congr (keeps_finishCommand (A := []) (keeps_refl _ _)) rfl taken
    · exact ok

theorem DirectoryOk.finishPlain {r : Except ResultCode State} (ok : DirectoryOk s)
    (done : ∀ t, r = .ok t → DirectoryOk t) : DirectoryOk (finishPlain s r).state := by
  cases r with
  | ok t => exact done t rfl
  | error code => exact ok

theorem create_eq_ok {tag : List Byte} {length : Nat} {cls reach visibility : Byte} {watch wake : Bool} {lease : Half}
    (ok : create tag length cls reach visibility watch wake lease s = .ok (t, i)) :
    ∃ r v, (1 ≤ length ∧ length ≤ 16) ∧ s.findTag tag = none
      ∧ allocate (createdEntry tag cls r v watch wake lease) s = some (t, i) := by
  unfold create at ok
  split at ok
  next range =>
    split at ok
    next r v _ _ =>
      split at ok
      · cases ok
      next free =>
        simp only at ok
        split at ok
        next allocated =>
          cases ok
          exact ⟨r, v, range, by simpa using free, allocated⟩
        · cases ok
    · cases ok
  · cases ok

theorem length_dataBytes (c : CommandSlot) {n : Nat} (small : n ≤ 16) : (c.dataBytes n).length = n := by
  simp [CommandSlot.dataBytes, small]

theorem DirectoryOk.performCreate (c : CommandSlot) (s : State) (ok : DirectoryOk s) :
    DirectoryOk (performCreate c s).state := by
  unfold Machine.performCreate
  extract_lets length
  split
  next created =>
    obtain ⟨r, v, range, free, allocated⟩ := create_eq_ok created
    have tag : (c.dataBytes length).length = length := length_dataBytes c range.2
    exact ok.allocate allocated (ok_created (tag.symm ▸ range)) ((findTag_eq_none_iff _).mp free)
  · exact ok

theorem amend_eq_ok {cls reach visibility : Byte} {watch wake : Bool} {lease : Half}
    (ok : amend h cls reach visibility watch wake lease force s = .ok t) :
    ∃ r v i e, s.lookup h = some (i, e) ∧ e.life.isSpent = false ∧ ¬(lease = 0 ∧ e.origin ≠ .loc)
      ∧ t = if decide (e.life.isStale = true ∧ e.watch = true ∧ watch = true) then
          addMark i .revived (s.setEntry i (amended e cls r v watch wake lease))
        else s.setEntry i (amended e cls r v watch wake lease) := by
  unfold amend at ok
  split at ok
  next r v _ _ =>
    split at ok
    · cases ok
    next i e found =>
      split at ok
      · cases ok
      next unspent =>
        split at ok
        · cases ok
        next leased =>
          split at ok
          · cases ok
          · cases ok
            exact ⟨r, v, i, e, found, Bool.eq_false_iff.mpr unspent, leased, by simp⟩
  · cases ok

theorem DirectoryOk.performAmend (c : CommandSlot) (s : State) (ok : DirectoryOk s) :
    DirectoryOk (performAmend c s).state :=
  ok.finishPlain fun t amended => by
    obtain ⟨r, v, i, e, found, unspent, leased, rfl⟩ := amend_eq_ok amended
    have held := entryOf_of_lookup found
    exact ok.setEntry_addMark_if _ .revived held (follows_amended (ok.entries i e held) unspent leased)

theorem judgeEdit_eq_ok {id : Byte} (ok : judgeEdit who force h id s = .ok (i, e)) :
    (1 ≤ id.toNat ∧ id.toNat ≤ 254) ∧ s.lookup h = some (i, e) := by
  unfold judgeEdit at ok
  split at ok
  next inside =>
    split at ok
    · cases ok
    next found =>
      split at ok
      · cases ok
      · split at ok
        · cases ok
        · split at ok
          · cases ok
          · split at ok
            · cases ok
            · cases ok
              exact ⟨inside, found⟩
  · cases ok

theorem DirectoryOk.writePairs {pairs : List Attr} (ok : DirectoryOk s) (held : s.entryOf i = some e)
    (attrs : Entry.attrsOk { e with attrs := pairs }) : DirectoryOk (writePairs who i e pairs s) := by
  have written := ok.setEntry held
    (follows_attrs (ok.entries i e held) attrs)
  unfold Machine.writePairs
  split
  · exact written
  · exact written.addMark i .changed

theorem DirectoryOk.putAttr {id : Byte} {value : Half} (ok : DirectoryOk s)
    (put : putAttr who force h id value s = .ok t) : DirectoryOk t := by
  obtain ⟨i, e, judged, room, rfl⟩ := putAttr_eq_ok put
  obtain ⟨inside, found⟩ := judgeEdit_eq_ok judged
  have held := entryOf_of_lookup found
  obtain ⟨-, -, -, attrs, -⟩ := ok.entries i e held
  exact ok.writePairs held (attrsOk_put attrs inside room)

theorem DirectoryOk.dropAttr {id : Byte} (ok : DirectoryOk s) (dropped : dropAttr who force h id s = .ok t) :
    DirectoryOk t := by
  obtain ⟨i, e, judged, rfl⟩ := dropAttr_eq_ok dropped
  have held := entryOf_of_lookup (judgeEdit_eq_ok judged).2
  obtain ⟨-, -, -, attrs, -⟩ := ok.entries i e held
  exact ok.writePairs held (attrsOk_drop attrs)

theorem DirectoryOk.retire (ok : DirectoryOk s) (retired : retire h force s = .ok t) : DirectoryOk t := by
  obtain ⟨i, e, found, -, rfl⟩ := retire_eq_ok retired
  exact ok.freeSlot (entryOf_of_lookup found)

/-- R75: the lock is set for a hold that is not 0. -/
theorem DirectoryOk.claimLock {hold : Byte} {g : Nat} (params : paramsOk s) (ok : DirectoryOk s)
    (held : s.entryOf i = some e) (unspent : e.life.isSpent = false) (positive : hold ≠ 0)
    (claimed : claimLock who hold i e s = .ok (t, g)) : DirectoryOk t := by
  obtain rfl := claimLock_eq_ok claimed
  exact ok.setEntry held (follows_locked (ok.entries i e held) unspent (grantedHold_range params.1 positive))

theorem judgeLock_eq_ok {hold : Byte} (ok : judgeLock h hold s = .ok (i, e)) :
    hold ≠ 0 ∧ s.lookup h = some (i, e) ∧ e.life.isSpent = false := by
  unfold judgeLock at ok
  split at ok
  · cases ok
  next positive =>
    split at ok
    · cases ok
    next found =>
      split at ok
      · cases ok
      next unspent =>
        cases ok
        exact ⟨positive, found, Bool.eq_false_iff.mpr unspent⟩

theorem DirectoryOk.performLock (c : CommandSlot) (s : State) (params : paramsOk s) (ok : DirectoryOk s) :
    DirectoryOk (performLock c s).state := by
  unfold Machine.performLock
  split
  · exact ok
  next judged =>
    obtain ⟨positive, found, unspent⟩ := judgeLock_eq_ok judged
    split
    next claimed => exact ok.claimLock params (entryOf_of_lookup found) unspent positive claimed
    · exact ok

theorem DirectoryOk.performUnlock (c : CommandSlot) (s : State) (ok : DirectoryOk s) :
    DirectoryOk (performUnlock c s).state := by
  unfold Machine.performUnlock
  split
  · exact ok
  next i e found =>
    split
    · exact ok
    · split
      next released _ =>
        have held := entryOf_of_lookup found
        cases released with
        | true => exact ok.setEntry held (follows_unlocked (ok.entries i e held))
        | false => exact ok

theorem entryOf_of_nextMarked (next : s.nextMarked = some (i, e)) : s.entryOf i = some e := by
  obtain ⟨j, -, found⟩ := List.exists_of_findSome?_eq_some next
  split at found
  next held =>
    split at found
    · cases found
      exact held
    · cases found
  · cases found

/-- R166: a SPENT entry that is collected goes FREE; another loses its marks. -/
theorem DirectoryOk.collectEntry (ok : DirectoryOk s) (held : s.entryOf i = some e) : DirectoryOk (collectEntry i e s) := by
  by_cases spent : e.life = .spent
  · rw [collectEntry_of_spent spent]
    refine ok.left (x := none) held ?_ (fun j other => ?_) ?_ (fun d left => ?_)
    · rw [slot_freeSlot_self, slot_emptied_self]
    · rw [slot_freeSlot_of_ne _ (Ne.symm other), slot_emptied_of_ne other]
    · rw [freeSlot_free, Option.isNone_none, if_pos rfl]
      rfl
    · cases left
  · rw [collectEntry_of_not_spent spent]
    exact (ok.setEntry held (follows_emptied (ok.entries i e held) spent)).setCursor i

theorem DirectoryOk.performCollect (c : CommandSlot) (s : State) (ok : DirectoryOk s) :
    DirectoryOk (performCollect c s).state := by
  unfold Machine.performCollect
  split
  next next => exact ok.collectEntry (entryOf_of_nextMarked next)
  · exact ok

theorem DirectoryOk.purgeSlot (selected : Origin → Bool) (r : State × Nat) (i : SlotNo) (ok : DirectoryOk r.1) :
    DirectoryOk (purgeSlot selected r i).1 := by
  unfold Machine.purgeSlot
  split
  next held =>
    split
    · exact ok.freeSlot held
    · exact ok
  · exact ok

theorem DirectoryOk.purgeAll (selected : Origin → Bool) (ok : DirectoryOk s) : DirectoryOk (purgeAll selected s).1 := by
  unfold Machine.purgeAll
  have fold : ∀ (l : List SlotNo) (r : State × Nat), DirectoryOk r.1 → DirectoryOk (l.foldl (Machine.purgeSlot selected) r).1 := by
    intro l
    induction l with
    | nil => exact fun _ ok => ok
    | cons i rest ih => exact fun r ok => ih _ (ok.purgeSlot selected r i)
  exact fold allSlots (s, 0) ok

theorem DirectoryOk.performPurge (c : CommandSlot) (s : State) (ok : DirectoryOk s) :
    DirectoryOk (performPurge c s).state := by
  unfold Machine.performPurge
  split
  · exact ok
  next selected _ =>
    have purged := ok.purgeAll selected
    generalize Machine.purgeAll selected s = r at purged
    exact purged

/-! ## Trunk grants -/

/-- A Trunk grant keeps the law if serving its request does. -/
theorem DirectoryOk.trunkGrant {select : Option Request → Option (Fin 6 → State → State)}
    (served : ∀ r serve, select r = some serve → ∀ c u, paramsOk u → DirectoryOk u → DirectoryOk (serve c u))
    (params : paramsOk s) (ok : DirectoryOk s) : DirectoryOk (trunkGrant select s) := by
  unfold Machine.trunkGrant
  split
  · exact ok
  next c _ =>
    split
    · exact ok
    next serve selected => exact served _ serve selected c (takeRequest s) params (ok.of_dir rfl)

theorem DirectoryOk.buildReply (ok : DirectoryOk s) (c : Fin 6) (r : Reply) : DirectoryOk (buildReply c r s) :=
  ok.of_dir rfl

theorem DirectoryOk.servePlain {kind : Byte} {c : Fin 6} {r : Except ResultCode State} (ok : DirectoryOk s)
    (done : ∀ t, r = .ok t → DirectoryOk t) : DirectoryOk (servePlain kind c s r) := by
  cases r with
  | ok t => exact (done t rfl).buildReply c _
  | error code => exact ok.buildReply c _

variable {n : Byte} {tag : List Byte} {cls : Byte} {v : Visibility} {g : Nat}

theorem DirectoryOk.announceNew (length : 1 ≤ tag.length ∧ tag.length ≤ 16) (range : 1 ≤ g ∧ g ≤ 65535)
    (fresh : ¬tagTaken tag s) (ok : DirectoryOk s) (placed : announceNew n tag cls v g s = .ok (t, i)) :
    DirectoryOk t := by
  obtain ⟨u, allocated, rfl⟩ := announceNew_eq_ok placed
  exact (ok.allocate allocated (ok_announced length range) fresh).addMark i .created

/-- R36: two marks may be offered to the entry that is announced afresh. -/
theorem DirectoryOk.reannounce (ok : DirectoryOk s) (held : s.entryOf i = some e) (counts : e.countsForTag = true)
    (range : 1 ≤ g ∧ g ≤ 65535) : DirectoryOk (reannounce i e n cls v g s) := by
  have written := ok.setEntry held
    (follows_reannounced (cls := cls) (n := n) (visibility := v) (ok.entries i e held) counts range)
  have marked (m : Mark) (offered : Prop) [Decidable offered] {u : State} (ok : DirectoryOk u) :
      DirectoryOk (if offered then Machine.addMark i m u else u) := by
    split
    · exact ok.addMark i m
    · exact ok
  exact marked .changed _ (marked .revived _ written)

/-- R9: an entry that is retired no longer takes its tag. -/
theorem not_tagTaken_retireSide (ok : DirectoryOk s) (held : s.entryOf i = some e) (counts : e.countsForTag = true)
    (same : e.tag = tag) : ¬tagTaken tag (retireSide i e s) := by
  rintro ⟨j, d, now, counted, equal⟩
  obtain ⟨-, slot, ⟨others, -⟩, -⟩ := retireSide_spec (s := s) i e
  by_cases here : j = i
  · subst here
    have left : (retireSide j e s).entryOf j = _ := congrArg Slot.entry slot
    rw [left] at now
    split at now
    · cases now
      simp [Entry.countsForTag, Life.isSpent] at counted
    · cases now
  · have there : (retireSide i e s).entryOf j = s.entryOf j := congrArg Slot.entry (others j (by simpa using here))
    exact here (ok.tags j i d e (there ▸ now) held counted counts (equal.trans same.symm))

theorem DirectoryOk.announce {visibility : Byte} {lease : Half} (params : paramsOk s) (ok : DirectoryOk s)
    (announced : announce n tag cls visibility lease s = .ok (t, i, g)) : DirectoryOk t := by
  obtain ⟨v, inRange, rfl, cases⟩ := announce_eq_ok announced
  have length : 1 ≤ tag.length ∧ tag.length ≤ 16 := by simpa [tagInRange] using inRange
  have range := grantedLease_range params.1 lease.toNat
  obtain ⟨free, placed⟩ | ⟨e, ⟨found, -, rfl⟩ | ⟨j, found, -, taken⟩⟩ := cases
  · exact ok.announceNew length range ((findTag_eq_none_iff tag).mp free) placed
  · obtain ⟨held, counts, -⟩ := entryOf_of_findTag found
    exact ok.reannounce held counts range
  · obtain ⟨held, counts, same⟩ := entryOf_of_findTag found
    obtain ⟨-, placed⟩ := takeover_eq_ok taken
    exact (ok.retireSide held).announceNew length range (not_tagTaken_retireSide ok held counts same) placed

theorem directoryOk_selectAnnounce (r : Option Request) (serve : Fin 6 → State → State)
    (selected : selectAnnounce r = some serve) (c : Fin 6) (u : State) (params : paramsOk u) (ok : DirectoryOk u) :
    DirectoryOk (serve c u) := by
  unfold selectAnnounce at selected
  split at selected
  · cases selected
    unfold serveAnnounce
    split
    next announced => exact (ok.announce params announced).buildReply c _
    · exact ok.buildReply c _
  · cases selected

theorem directoryOk_selectRefresh (r : Option Request) (serve : Fin 6 → State → State)
    (selected : selectRefresh r = some serve) (c : Fin 6) (u : State) (_ : paramsOk u) (ok : DirectoryOk u) :
    DirectoryOk (serve c u) := by
  unfold selectRefresh at selected
  split at selected
  · cases selected
    unfold serveRefresh
    split
    next refreshed =>
      obtain ⟨i, e, found, unspent, rfl⟩ := refresh_eq_ok refreshed
      have held := entryOf_of_lookup found
      exact (ok.setEntry_addMark_if _ .revived held (follows_restarted (ok.entries i e held) unspent)).buildReply c _
    · exact ok.buildReply c _
  · cases selected

theorem directoryOk_selectWithdraw (r : Option Request) (serve : Fin 6 → State → State)
    (selected : selectWithdraw r = some serve) (c : Fin 6) (u : State) (_ : paramsOk u) (ok : DirectoryOk u) :
    DirectoryOk (serve c u) := by
  unfold selectWithdraw at selected
  split at selected
  · cases selected
    exact ok.servePlain fun t withdrawn => by
      obtain ⟨i, e, found, -, rfl⟩ := withdraw_eq_ok withdrawn
      exact ok.retireSide (entryOf_of_lookup found)
  · cases selected

theorem directoryOk_selectPostAttr (r : Option Request) (serve : Fin 6 → State → State)
    (selected : selectPostAttr r = some serve) (c : Fin 6) (u : State) (_ : paramsOk u) (ok : DirectoryOk u) :
    DirectoryOk (serve c u) := by
  unfold selectPostAttr at selected
  split at selected
  · cases selected
    exact ok.servePlain fun t put => ok.putAttr put
  · cases selected

theorem directoryOk_selectDropAttr (r : Option Request) (serve : Fin 6 → State → State)
    (selected : selectDropAttr r = some serve) (c : Fin 6) (u : State) (_ : paramsOk u) (ok : DirectoryOk u) :
    DirectoryOk (serve c u) := by
  unfold selectDropAttr at selected
  split at selected
  · cases selected
    exact ok.servePlain fun t dropped => ok.dropAttr dropped
  · cases selected

theorem judgeClaim_eq_ok {hold : Byte} (ok : judgeClaim n h hold s = .ok (i, e)) :
    hold ≠ 0 ∧ s.lookup h = some (i, e) ∧ e.life.isSpent = false := by
  unfold judgeClaim at ok
  split at ok
  · cases ok
  next positive =>
    split at ok
    · cases ok
    next found =>
      split at ok
      · cases ok
      · split at ok
        · cases ok
        · split at ok
          next live =>
            cases ok
            exact ⟨positive, found, by cases life : e.life <;> simp_all [Life.isLive, Life.isSpent]⟩
          · cases ok

theorem directoryOk_selectClaim (r : Option Request) (serve : Fin 6 → State → State)
    (selected : selectClaim r = some serve) (c : Fin 6) (u : State) (params : paramsOk u) (ok : DirectoryOk u) :
    DirectoryOk (serve c u) := by
  unfold selectClaim at selected
  split at selected
  · cases selected
    unfold serveClaim
    split
    · exact ok.buildReply c _
    next judged =>
      obtain ⟨positive, found, unspent⟩ := judgeClaim_eq_ok judged
      split
      next claimed =>
        exact (ok.claimLock params (entryOf_of_lookup found) unspent positive claimed).buildReply c _
      · exact ok.buildReply c _
  · cases selected

theorem directoryOk_selectYield (r : Option Request) (serve : Fin 6 → State → State)
    (selected : selectYield r = some serve) (c : Fin 6) (u : State) (_ : paramsOk u) (ok : DirectoryOk u) :
    DirectoryOk (serve c u) := by
  unfold selectYield at selected
  split at selected
  · cases selected
    exact ok.servePlain fun t yielded => by
      obtain ⟨i, e, found, rfl⟩ := yield_eq_ok yielded
      have held := entryOf_of_lookup found
      exact ok.setEntry held (follows_unlocked (ok.entries i e held))
  · cases selected

/-! ## The sweep, the load and the resets -/

theorem DirectoryOk.sweepSlot {q grace : Nat} (small : grace ≤ 255) (ok : DirectoryOk s) (i : SlotNo) :
    DirectoryOk (sweepSlot q grace s i) := by
  cases held : s.entryOf i with
  | none =>
    rw [Machine.sweepSlot, held]
    exact ok
  | some e =>
    obtain ⟨slot, ⟨others, -⟩, free, -, -⟩ := slotLeft_sweepSlot (s := s) (i := i) (q := q) (grace := grace)
    rw [held, Option.bind_some] at slot free
    refine ok.left held slot (fun j other => others j (by simpa using other)) (by simpa [goesFree] using free) fun d left => ?_
    exact follows_swept small (ok.entries i e held) left

theorem DirectoryOk.sweepAll {q grace : Nat} (small : grace ≤ 255) (ok : DirectoryOk s) :
    DirectoryOk (sweepAll q grace s) := by
  unfold Machine.sweepAll
  generalize allSlots = slots
  induction slots generalizing s with
  | nil => exact ok
  | cons i rest ih => exact ih (ok.sweepSlot small i)

theorem DirectoryOk.sweepGrant (params : paramsOk s) (ok : DirectoryOk s) : DirectoryOk (sweepGrant s) := by
  obtain ⟨-, -, -, -, -, small, -⟩ := inRange_iff.mp params.1
  unfold Machine.sweepGrant
  split
  · exact DirectoryOk.sweepAll (s := (recordGrant .sweep s).setTime _) small (ok.of_dir rfl)
  · exact ok

theorem DirectoryOk.placePreset {p : Preset} (ok : DirectoryOk s) (placed : placePreset p s = some t) :
    DirectoryOk t := by
  unfold Machine.placePreset at placed
  split at placed
  · cases placed
  next judged =>
    split at placed
    · cases placed
    next free =>
      obtain ⟨⟨u, i⟩, allocated, rfl⟩ := Option.map_eq_some_iff.mp placed
      exact ok.allocate allocated (ok_preset judged) ((findTag_eq_none_iff _).mp (by simpa using free))

theorem directoryOk_presetCreate (ok : DirectoryOk (settle s)) : DirectoryOk (after .presetCreate s) := by
  simp only [after, exec, execPresetCreate]
  generalize settle s = u at ok
  split
  · split
    next placed => exact (ok.placePreset placed).of_dir rfl
    · exact ok.of_dir rfl
  all_goals exact ok

/-- R80: the entry without a lock of LOCAL's. -/
def withoutLocalLock (e : Entry) : Entry :=
  match e.lock with
  | none => e
  | some k => if k.holder = .loc then { e with lock := none } else e

theorem follows_withoutLocalLock (ok : e.ok) : Follows e (withoutLocalLock e) := by
  unfold withoutLocalLock
  split
  · exact ⟨ok, rfl, id⟩
  · split
    · exact follows_unlocked ok
    · exact ⟨ok, rfl, id⟩

theorem dropLocalLock_eq (x : Slot) : dropLocalLock x = { x with entry := x.entry.map withoutLocalLock } := rfl

theorem slot_hostCleared (s : State) (i : SlotNo) : (hostCleared s).slot i = dropLocalLock (s.slot i) :=
  mapAll_get dropLocalLock s.dir.slots i

theorem free_hostCleared (s : State) : (hostCleared s).dir.free = s.dir.free := rfl

theorem DirectoryOk.hostCleared (ok : DirectoryOk s) : DirectoryOk (hostCleared s) := by
  refine ok.map (f := withoutLocalLock) (fun i => ?_) (free_hostCleared s) fun _ => follows_withoutLocalLock
  rw [slot_hostCleared, dropLocalLock_eq]
  rfl

theorem DirectoryOk.hostResetEffect (ok : DirectoryOk s) : DirectoryOk (hostResetEffect s) := by
  have answered : DirectoryOk (answerDeferred s) := kept_of_keeps directoryOk_congr keeps_answerDeferred rfl ok
  rw [hostResetEffect_eq]
  exact answered.hostCleared

theorem directoryOk_reset (s : State) : DirectoryOk (after .fullReset s) := by
  have dir : (after .fullReset s).dir = Directory.reset := rfl
  have none_ (i : SlotNo) : (after .fullReset s).entryOf i = none := by
    simp [State.entryOf, State.slot, dir, Directory.reset]
  have free : (after .fullReset s).dir.free = allSlots := by rw [dir, Directory.reset]
  refine ⟨free ▸ List.nodup_finRange 256, fun i => ?_, fun i used => ?_, fun i j d e held => ?_, fun i e held => ?_⟩
  · rw [free, none_]
    exact iff_of_true (List.mem_finRange i) rfl
  · exact absurd (none_ i) used
  · rw [none_] at held
    cases held
  · rw [none_] at held
    cases held

theorem directoryOk_kept : KeptGiven paramsOk DirectoryOk where
  queue _ _ ok := ok.of_dir rfl
  reset := directoryOk_reset
  fault _ _ := kept_of_keeps directoryOk_congr keeps_settleFault rfl
  release _ _ := kept_of_keeps directoryOk_congr keeps_settleRelease rfl
  tenMs _ _ := kept_of_keeps directoryOk_congr keeps_settleTenMs rfl
  expiry _ _ := kept_of_keeps directoryOk_congr keeps_settleExpiry rfl
  second _ _ := kept_of_keeps directoryOk_congr keeps_settleSecond rfl
  period _ _ := kept_of_keeps directoryOk_congr keeps_idlePeriod rfl
  row i other s params ok := by
    cases i with
    | fullReset | trunkFault | faultRelease | tenMsTick | deadlineExpiry | secondTick => exact absurd (by decide) other
    | presetCreate => exact directoryOk_presetCreate ok
    | hostReset => exact kept_hostReset ok DirectoryOk.hostResetEffect
    | sweep => exact ok.sweepGrant params
    | create => exact ok.commandGrant (perform := performCreate) (fun c u _ => DirectoryOk.performCreate c u) params
    | amend => exact ok.commandGrant (perform := performAmend) (fun c u _ => DirectoryOk.performAmend c u) params
    | putAttr => exact ok.commandGrant (perform := performPutAttr) (fun _ _ _ ok => ok.finishPlain fun _ => ok.putAttr) params
    | dropAttr =>
      exact ok.commandGrant (perform := performDropAttr) (fun _ _ _ ok => ok.finishPlain fun _ => ok.dropAttr) params
    | retire => exact ok.commandGrant (perform := performRetire) (fun _ _ _ ok => ok.finishPlain fun _ => ok.retire) params
    | lock => exact ok.commandGrant (perform := performLock) DirectoryOk.performLock params
    | unlock => exact ok.commandGrant (perform := performUnlock) (fun c u _ => DirectoryOk.performUnlock c u) params
    | collect => exact ok.commandGrant (perform := performCollect) (fun c u _ => DirectoryOk.performCollect c u) params
    | purge => exact ok.commandGrant (perform := performPurge) (fun c u _ => DirectoryOk.performPurge c u) params
    | announce => exact ok.trunkGrant directoryOk_selectAnnounce params
    | refresh => exact ok.trunkGrant directoryOk_selectRefresh params
    | withdraw => exact ok.trunkGrant directoryOk_selectWithdraw params
    | postAttr => exact ok.trunkGrant directoryOk_selectPostAttr params
    | trunkDropAttr => exact ok.trunkGrant directoryOk_selectDropAttr params
    | claim => exact ok.trunkGrant directoryOk_selectClaim params
    | yield => exact ok.trunkGrant directoryOk_selectYield params
    | _ => exact kept_of_untouched directoryOk_congr _ rfl ok

/-- Settles O58: each row leaves at most one entry that may follow the one before it, or a new one whose tag is free, slot by
slot. -/
theorem everyStepKeepsTheDirectoryLaw : Obligations.EveryStepKeepsTheDirectoryLaw :=
  (paramsOk_kept.with directoryOk_kept).step_of_iff directoryInv_iff

end Sys2Proof.Proofs
end

section
/-! PROOFS. The step function, and the state right after reset. -/

namespace Sys2Proof.Proofs

open Sys2Proof.Machine Sys2Proof.Laws

variable {I : State → Prop}

/-- Settles O1: the step takes the command at the front from the queue, and runs it on the rest. -/
theorem stepRunsTheFrontCommand : Obligations.StepRunsTheFrontCommand := by
  intro c rest s front
  rw [step, front]

/-- A full reset of the reset state leaves it as it is, so what every row keeps holds of it. -/
theorem KeptByRows.reset_state (kept : KeptByRows I) : I State.reset := kept.reset State.reset

/-- Settles O55: each invariant that every step keeps holds after a full reset. -/
theorem resetStateHasEveryInvariant : Obligations.ResetStateHasEveryInvariant := by
  refine ⟨wakeFlagInv_kept.reset_state, dozeInv_kept.reset_state, postOrderInv_kept.reset_state, pinsInv_kept.reset_state,
    (rangesInv_iff _).mpr rangesOk_kept.reset_state, (directoryInv_iff _).mpr ?_, (searchInv_iff _).mpr ?_,
    (trunkInv_iff _).mpr board_kept.reset_state⟩
  · exact (paramsOk_kept.with directoryOk_kept).reset_state
  · exact searchesOk_kept.reset_state

end Sys2Proof.Proofs
end

section
/-! PROOFS. The rows of the time base and of the trunk fault: what a tick produces, and how it is taken (3.1, 3.2, 6.2,
7.4). -/

namespace Sys2Proof.Proofs

open Sys2Proof.Machine Sys2Proof.Laws

variable {s t : State}

/-! ## One block replaced -/

theorem keepsBut_setTime (x : TimeBase) : keepsBut [.time] s (s.setTime x) :=
  ⟨rfl, fun b hb => by cases b with | time => simp at hb | _ => rfl⟩

theorem keepsBut_setLink (x : Link) : keepsBut [.link] s (s.setLink x) :=
  ⟨rfl, fun b hb => by cases b with | link => simp at hb | _ => rfl⟩

theorem keepsBut_setTrunk (x : TrunkUnit) : keepsBut [.trunk] s (s.setTrunk x) :=
  ⟨rfl, fun b hb => by cases b with | trunk => simp at hb | _ => rfl⟩

theorem keepsBut_setPort (x : HostPort) : keepsBut [.port] s (s.setPort x) :=
  ⟨rfl, fun b hb => by cases b with | port => simp at hb | _ => rfl⟩

theorem keepsBut_setLoader (x : Loader) : keepsBut [.loader] s (s.setLoader x) :=
  ⟨rfl, fun b hb => by cases b with | loader => simp at hb | _ => rfl⟩

theorem keepsBut_setDoze (x : Doze) : keepsBut [.doze] s (s.setDoze x) :=
  ⟨rfl, fun b hb => by cases b with | doze => simp at hb | _ => rfl⟩

/-! ## The second tick (R57) -/

theorem settleSecond_of_not_due (quiet : s.time.secondDue = false) : settleSecond s = s := by
  rw [settleSecond, if_neg (by simp [quiet])]

theorem settleSecond_of_owed (due : s.time.secondDue = true) (room : s.time.owed < 15) :
    settleSecond s = s.setTime { s.time with owed := s.time.owed + 1, secondDue := false } := by
  rw [settleSecond, if_pos due, secondEffect, if_pos room]

theorem settleSecond_of_lost (due : s.time.secondDue = true) (full : ¬s.time.owed < 15) :
    settleSecond s = setFlag .slip (s.setTime { s.time with secondDue := false }) := by
  rw [settleSecond, if_pos due, secondEffect, if_neg full]

/-- A write that the port takes keeps what the write keeps. -/
theorem portWrite_eq_of {α : Type} (read : State → α) {write : State → State} (same : read (write s) = read s) :
    read (portWrite write s) = read s := by
  unfold portWrite
  split
  · exact same
  · rfl

/-- Settles O9: by whether a second tick is due, and whether 15 seconds are owed. -/
theorem secondTickIsOwedOrLost : Obligations.SecondTickIsOwedOrLost := by
  intro s
  refine ⟨fun quiet => congrArg _ (settleSecond_of_not_due quiet), fun due => ⟨settleSecond s, rfl, ?_⟩,
    fun settled granted => ⟨_, exec_sweep settled granted, ?_⟩, fun settled v => ⟨_, rfl, ?_⟩⟩
  · by_cases room : s.time.owed < 15
    · rw [settleSecond_of_owed due room, if_pos room, if_pos room]
      exact ⟨keepsBut_mono (keepsBut_setTime _) (by simp), rfl, setsFlags_of_same rfl⟩
    · rw [settleSecond_of_lost due room, if_neg room, if_neg room]
      refine ⟨keepsBut_trans (keepsBut_mono (keepsBut_setTime _) (by simp)) (keepsBut_mono (keepsBut_setFlag _) (by simp)),
        rfl, ?_⟩
      exact setsFlags_congr_states (setFlag_setsFlags (s.setTime { s.time with secondDue := false }) .slip) rfl rfl
  · have swept : (sweepAll s.time.owed s.params.grace (takeSweep s)).time = (takeSweep s).time :=
      (slotsLeft_sweepAll (s := takeSweep s)).keeps.2 .time (by decide)
    rw [swept]
    rfl
  · rw [settle_of_settled s settled]
    exact portWrite_eq_of (fun t => t.time.owed) rfl

/-! ## The deadlines (R134) -/

theorem expired_iff (x : TrunkContext) : x.expired = true ↔ x.state = .awaitingHost ∧ x.deadline = some 0 := by
  simp [TrunkContext.expired]

theorem settleExpiry_of_not_due (quiet : s.expiryDue = false) : settleExpiry s = s := by
  rw [settleExpiry, if_neg (by simp [quiet])]

theorem settleExpiry_of_due (due : s.expiryDue = true) : settleExpiry s = endWaits .partial_ TrunkContext.expired s := by
  rw [settleExpiry, if_pos due, expireDeadlines]

/-- What the expiry of deadlines leaves of the contexts and of the queues, whether one was due or not. -/
theorem settleExpiry_spec (s : State) :
    (∀ c, (settleExpiry s).context c
        = if (s.context c).expired = true then waitEnded .partial_ (s.context c) else s.context c)
      ∧ (settleExpiry s).trunk.ready = s.trunk.ready ++ (List.finRange 6).filter (fun c => (s.context c).expired)
      ∧ (settleExpiry s).trunk.received = s.trunk.received := by
  cases due : s.expiryDue with
  | true =>
    rw [settleExpiry_of_due due]
    exact endWaits_spec s _ _
  | false =>
    rw [settleExpiry_of_not_due due]
    rw [expiryDue_eq_false_iff] at due
    have none_expired : (List.finRange 6).filter (fun c => (s.context c).expired) = [] :=
      List.filter_eq_nil_iff.mpr fun c _ => by simp [due c]
    refine ⟨fun c => ?_, ?_, rfl⟩
    · rw [if_neg (by simp [due c])]
    · rw [none_expired, List.append_nil]

theorem keepsBut_settleExpiry (s : State) : keepsBut [.trunk] s (settleExpiry s) := by
  cases due : s.expiryDue with
  | true =>
    rw [settleExpiry_of_due due, endWaits_blocks]
    exact keepsBut_setTrunk _
  | false =>
    rw [settleExpiry_of_not_due due]
    exact keepsBut_refl _

/-- Settles O10: an expired context is one that waits with deadline 0. -/
theorem deadlineExpiryRepliesPartial : Obligations.DeadlineExpiryRepliesPartial := by
  intro s
  obtain ⟨contexts, ready, received⟩ := settleExpiry_spec s
  refine ⟨settleExpiry s, rfl, keepsBut_settleExpiry s, fun c => ?_, ?_, received⟩
  · rw [contexts c]
    exact ite_of_iff (expired_iff _) _ _
  · rw [ready]
    refine congrArg _ (List.filter_congr fun c _ => Bool.eq_iff_iff.mpr ?_)
    rw [expired_iff, decide_eq_true_iff]

/-! ## What is due is taken first (log 3, log 4, log 23) -/

theorem idlePeriod_of_resetLow (low : s.resetLow = true) : idlePeriod s = s := by
  rw [idlePeriod, if_neg (by simp [low]), refclkPeriod_of_resetLow _ _ _ low]

theorem idlePeriod_of_lt (high : s.resetLow = false) (runs : s.time.dividerCount < s.time.dividerInForce) :
    idlePeriod s = s.setTime { s.time with dividerCount := s.time.dividerCount + 1 } := by
  rw [idlePeriod, if_neg (by omega), refclkPeriod_of_lt _ _ _ high runs]

/-- A period that ends the millisecond is a millisecond tick, counted as an idle one. -/
theorem idlePeriod_of_le (high : s.resetLow = false) (ends : s.time.dividerInForce ≤ s.time.dividerCount) :
    let lines := Config.idleLines s.time.idleTicks
    idlePeriod s = msEffect lines.1 lines.2 (s.setTime { s.time with idleTicks := s.time.idleTicks + 1 }) := by
  intro lines
  have ticked : (s.setTime { s.time with idleTicks := s.time.idleTicks + 1 }).resetLow = false := high
  rw [idlePeriod, if_pos ⟨high, ends⟩, refclkPeriod_of_le _ _ _ ticked ends, msEffect_of_running _ _ _ ticked]

theorem step_of_idle (idle : s.pending = []) : step s = .next (idlePeriod (settle s)) := by rw [step, idle]

theorem exec_msTick (settled : s.settled = true) (tkc tkd : LineMs) :
    exec (.msTick tkc tkd) s = .next (msEffect tkc tkd s) :=
  congrArg (fun u => Host.Outcome.next (msEffect tkc tkd u)) (settle_of_settled s settled)

/-- The model's count of idle milliseconds has no part in what is due. -/
theorem settled_setTime_idleTicks (n : Nat) : (s.setTime { s.time with idleTicks := n }).settled = s.settled := rfl

/-- Settles O12: the five consequences in their order are `settle`, every other row begins with it, and so does an idle
period. -/
theorem ticksAreTakenBeforeAnythingElse : Obligations.TicksAreTakenBeforeAnythingElse := by
  refine ⟨fun s => ⟨settled_settle s, settle_of_settled s, ⟨_, _, _, _, rfl, rfl, rfl, rfl, rfl⟩,
    fun c other => exec_settle other s⟩, fun s idle => ?_⟩
  extract_lets r lines
  have settled : r.settled = true := settled_settle s
  rw [step_of_idle idle]
  refine ⟨fun low => congrArg _ (idlePeriod_of_resetLow low), fun high runs => congrArg _ (idlePeriod_of_lt high runs),
    fun high ends => ?_⟩
  rw [exec_msTick ((settled_setTime_idleTicks _).trans settled)]
  exact congrArg _ (idlePeriod_of_le high ends)

/-! ## The millisecond tick and the 10-ms tick (R53, R55, R110, R134) -/

theorem lowRun_eq (line : LineMs) (run : Nat) : lowRun line run = if line = .low then min 25 (run + 1) else 0 := by
  cases line <;> rfl

theorem tickLink_of_fault {l : Link} (fault : l.state = .fault) (tkc tkd : LineMs) :
    tickLink tkc tkd l = { l with bothHigh := decide (tkc = .high ∧ tkd = .high) } := by
  simp only [tickLink, fault, Bool.decide_and]

theorem tickLink_of_not_fault {l : Link} (running : l.state ≠ .fault) (tkc tkd : LineMs) :
    tickLink tkc tkd l = { l with tkcLow := lowRun tkc l.tkcLow, tkdLow := lowRun tkd l.tkdLow } := by
  unfold tickLink
  cases state : l.state with
  | fault => exact absurd state running
  | idle | busy => rfl

/-- The tenth millisecond tick produces a 10-ms tick. -/
theorem tickTime_tenMs (divider : Nat) (x : TimeBase) (quiet : x.tenMsDue = false) :
    if x.tenMsCount < 9 then
      (tickTime divider x).tenMsCount = x.tenMsCount + 1 ∧ (tickTime divider x).tenMsDue = false
    else (tickTime divider x).tenMsCount = 0 ∧ (tickTime divider x).tenMsDue = true := by
  by_cases more : x.tenMsCount < 9
  · rw [if_pos more]
    simp [tickTime, quiet, Nat.not_le.mpr more]
  · rw [if_neg more]
    simp [tickTime, Nat.not_lt.mp more]

theorem keepsBut_tick (x : TimeBase) (l : Link) : keepsBut [.time, .link] s { s with time := x, link := l } :=
  ⟨rfl, fun b hb => by cases b with | time | link => simp at hb | _ => rfl⟩

theorem settleTenMs_of_not_due (quiet : s.time.tenMsDue = false) : settleTenMs s = s := by
  rw [settleTenMs, if_neg (by simp [quiet])]

theorem settleTenMs_of_due (due : s.time.tenMsDue = true) : settleTenMs s = tenMsEffect s := by
  rw [settleTenMs, if_pos due]

theorem keepsBut_tenMsEffect (s : State) : keepsBut [.time, .trunk] s (tenMsEffect s) :=
  ⟨rfl, fun b hb => by cases b with | time | trunk => simp at hb | _ => rfl⟩

theorem time_tenMsEffect (s : State) : (tenMsEffect s).time = { s.time with
    tenMsDue := false
    secondCount := if s.time.secondCount < 99 then s.time.secondCount + 1 else 0
    secondDue := if s.time.secondCount < 99 then s.time.secondDue else true } := by
  by_cases more : s.time.secondCount < 99
  · simp [tenMsEffect, more, Nat.not_le.mpr more]
  · simp [tenMsEffect, more, Nat.not_lt.mp more]

/-- Settles O13: a millisecond tick is the REFCLK periods up to the end of the millisecond. -/
theorem millisecondAndTenMsTicks : Obligations.MillisecondAndTenMsTicks := by
  refine ⟨fun s tkc tkd settled => ?_, fun s => ⟨fun quiet => congrArg _ (settleTenMs_of_not_due quiet), fun due => ?_⟩⟩
  · obtain ⟨-, -, quiet, -, -⟩ := (settled_iff s).mp settled
    rw [exec_msTick settled]
    refine ⟨fun low => congrArg _ (msEffect_of_resetLow _ _ _ low), refclkPeriod_of_lt _ _ _,
      fun high within => congrArg _ (msEffect_eq_repeat _ _ _ high within), fun high => ⟨_, rfl, ?_⟩⟩
    rw [msEffect_of_running _ _ _ high]
    refine ⟨keepsBut_tick _ _, rfl, rfl, tickTime_tenMs _ _ quiet, rfl, rfl, rfl,
      fun fault => tickLink_of_fault fault tkc tkd, fun running => ?_⟩
    rw [← lowRun_eq, ← lowRun_eq]
    exact tickLink_of_not_fault running tkc tkd
  · refine ⟨settleTenMs s, rfl, ?_⟩
    rw [settleTenMs_of_due due]
    exact ⟨keepsBut_tenMsEffect s, context_tenMsEffect, rfl, rfl, time_tenMsEffect s⟩

/-! ## The trunk fault and its release (R110 to R112, R142) -/

theorem faultDue_iff (s : State) :
    s.faultDue = true ↔ s.link.state ≠ .fault ∧ (25 ≤ s.link.tkcLow ∨ 25 ≤ s.link.tkdLow) := by
  simp [State.faultDue]

theorem releaseDue_iff (s : State) : s.releaseDue = true ↔ s.link.state = .fault ∧ s.link.bothHigh = true := by
  simp [State.releaseDue]

theorem keepsBut_enterFault (s : State) : keepsBut [.link, .trunk, .search, .notify] s (enterFault s) :=
  ⟨rfl, fun b hb => by cases b with | link | trunk | search | notify => simp at hb | _ => rfl⟩

/-- A search context shows as trunk-owned exactly while a trunk context owns it (R86). -/
theorem idleTrunkSearch_eq (x : SearchContext) :
    idleTrunkSearch x = if 0x80 ≤ x.ownerByte.toNat ∧ x.ownerByte ≠ 0xFF then .idle else x := by
  have trunk : ∀ c : Fin 6, 0x80 ≤ (BitVec.ofNat 8 (0x80 + c.val)).toNat ∧ BitVec.ofNat 8 (0x80 + c.val) ≠ 0xFF#8 := by
    decide
  cases x with
  | idle => rfl
  | running r | done _ r =>
    cases owner : r.owner with
    | loc => simp [idleTrunkSearch, SearchContext.ownerByte, owner]
    | trunk c =>
      simp only [idleTrunkSearch, SearchContext.ownerByte, owner]
      exact (if_pos (trunk c)).symm

/-- Settles O51: what is due decides, and each effect is the one its rule lists. -/
theorem trunkFaultAndItsRelease : Obligations.TrunkFaultAndItsRelease := by
  intro s
  refine ⟨fun free low => ⟨enterFault s, ?_, keepsBut_enterFault s, rfl, rfl, rfl, rfl, rfl, rfl, fun c => ?_, rfl, rfl,
    fun k => ?_, rfl⟩, fun quiet => ?_, fun fault high => ⟨leaveFault s, ?_, keepsBut_setLink _, rfl⟩, fun quiet => ?_⟩
  · exact congrArg _ (if_pos ((faultDue_iff s).mpr ⟨free, low⟩))
  · exact mapAll_get (fun x => TrunkContext.idleWith x.ticket) s.trunk.contexts c
  · exact (searchContext_enterFault s k).trans (idleTrunkSearch_eq _)
  · refine congrArg _ (if_neg fun due => ?_)
    obtain ⟨free, low⟩ := (faultDue_iff s).mp due
    rcases quiet with fault | ⟨tkc, tkd⟩
    · exact free fault
    · omega
  · exact congrArg _ (if_pos ((releaseDue_iff s).mpr ⟨fault, high⟩))
  · refine congrArg _ (if_neg fun due => ?_)
    obtain ⟨fault, high⟩ := (releaseDue_iff s).mp due
    rcases quiet with free | low
    · exact free fault
    · simp [low] at high

end Sys2Proof.Proofs
end

section
/-! PROOFS. The arbiter: the rotation of the four classes and of the search contexts, and what records a grant (2.1). -/

namespace Sys2Proof.Proofs

open Sys2Proof.Machine Sys2Proof.Laws

variable {s t : State}

/-! ## The first in an order -/

/-- The first item with a property, in a list given by its places. -/
theorem find?_map_range_eq_some {α : Type} (f : Nat → α) (p : α → Bool) (n : Nat) (x : α) :
    ((List.range n).map f).find? p = some x
      ↔ ∃ d, d < n ∧ f d = x ∧ p x = true ∧ ∀ e, e < d → ¬p (f e) = true := by
  rw [List.find?_eq_some_iff_getElem]
  constructor
  · rintro ⟨px, d, hd, at_d, before⟩
    simp only [List.length_map, List.length_range] at hd
    simp only [List.getElem_map, List.getElem_range] at at_d before
    exact ⟨d, hd, at_d, px, fun e he => by simpa using before e he⟩
  · rintro ⟨d, hd, at_d, px, before⟩
    refine ⟨px, d, by simpa using hd, by simpa using at_d, fun e he => ?_⟩
    simpa using before e he

/-- The same, with the places as numbers below `n`. -/
theorem find?_map_finRange_eq_some {α : Type} {n : Nat} (f : Fin n → α) (p : α → Bool) (x : α) :
    ((List.finRange n).map f).find? p = some x
      ↔ ∃ d, x = f d ∧ p x = true ∧ ∀ e, e < d → ¬p (f e) = true := by
  rw [List.find?_eq_some_iff_getElem]
  constructor
  · rintro ⟨px, d, hd, at_d, before⟩
    have bound : d < n := by simpa using hd
    simp only [List.getElem_map, List.getElem_finRange] at at_d before
    exact ⟨⟨d, bound⟩, at_d.symm, px, fun e he => by simpa using before e.val he⟩
  · rintro ⟨d, at_d, px, before⟩
    refine ⟨px, d.val, by simp, by simpa using at_d.symm, fun e he => ?_⟩
    simpa using before ⟨e, by omega⟩ he

/-! ## The decision (R26 to R28) -/

/-- R26, by its four conditions. -/
theorem classPending_iff (s : State) (g : GrantClass) : s.classPending g = true ↔ match g with
    | .command => s.port.postOrder ≠ []
    | .trunk => s.trunk.received ≠ []
    | .search => ∃ k r, s.searchContext k = .running r
    | .sweep => 0 < s.time.owed := by
  cases g with
  | command => simp [State.classPending]
  | trunk => simp [State.classPending]
  | sweep => simp [State.classPending]
  | search =>
    simp only [State.classPending, List.any_eq_true, List.mem_finRange, true_and]
    refine exists_congr fun k => ?_
    cases s.searchContext k <;> simp [SearchContext.isRunning]

theorem isRunning_iff (x : SearchContext) : x.isRunning = true ↔ ∃ r, x = .running r := by
  cases x <;> simp [SearchContext.isRunning]

/-- Each class has its turn. -/
theorem mem_classesAfter (l g : GrantClass) : g ∈ classesAfter l := by
  cases l <;> cases g <;> decide

/-- The rotation of the contexts, by places. -/
theorem contextsAfter_eq : ∀ k : Fin 4, contextsAfter k = (List.finRange 4).map (fun d => k + 1 + d) := by decide

theorem nextSearch_eq_some_iff (s : State) (k : Fin 4) : s.nextSearch = some k
    ↔ ∃ d : Fin 4, k = s.arb.lastServed + 1 + d ∧ (∃ r, s.searchContext k = .running r)
      ∧ ∀ e, e < d → ¬∃ r, s.searchContext (s.arb.lastServed + 1 + e) = .running r := by
  rw [State.nextSearch, contextsAfter_eq, find?_map_finRange_eq_some]
  simp only [isRunning_iff]

theorem nextGrant_eq_none_iff (ended : s.loadEnded = true) : s.nextGrant = none ↔ ∀ g, ¬s.classPending g = true := by
  rw [State.nextGrant, if_pos ended, List.find?_eq_none]
  exact ⟨fun none_left g => none_left g (mem_classesAfter _ g), fun none_left g _ => none_left g⟩

/-- A granted class is pending. -/
theorem classPending_of_granted {g : GrantClass} (granted : s.nextGrant = some g) : s.classPending g = true := by
  unfold State.nextGrant at granted
  split at granted
  · exact List.find?_some granted
  · cases granted

/-- A Search grant has a context to serve. -/
theorem exists_nextSearch (granted : s.nextGrant = some .search) :
    ∃ k r, s.nextSearch = some k ∧ s.searchContext k = .running r := by
  obtain ⟨k, r, running⟩ := (classPending_iff s .search).mp (classPending_of_granted granted)
  cases next : s.nextSearch with
  | some j =>
    obtain ⟨-, -, ⟨x, runs⟩, -⟩ := (nextSearch_eq_some_iff s j).mp next
    exact ⟨j, x, rfl, runs⟩
  | none =>
    rw [State.nextSearch, contextsAfter_eq, List.find?_eq_none] at next
    have mem : ∀ l j : Fin 4, j ∈ (List.finRange 4).map (fun d => l + 1 + d) := by decide
    exact absurd ((isRunning_iff _).mpr ⟨r, running⟩) (next k (mem _ k))

/-! ## What leaves the arbiter alone -/

theorem keepsBut_performCollect (c : CommandSlot) (s : State) : keepsBut [.dir] s (performCollect c s).state := by
  unfold performCollect
  split
  · exact keepsBut_collectEntry
  · exact keepsBut_refl _

theorem arb_settleFault (s : State) : (settleFault s).arb = s.arb := by
  unfold settleFault
  split <;> rfl

theorem arb_settleRelease (s : State) : (settleRelease s).arb = s.arb := by
  unfold settleRelease
  split <;> rfl

theorem arb_settleTenMs (s : State) : (settleTenMs s).arb = s.arb := by
  unfold settleTenMs
  split <;> rfl

theorem arb_settleExpiry (s : State) : (settleExpiry s).arb = s.arb := (keepsBut_settleExpiry s).2 .arb (by decide)

theorem arb_settleSecond (s : State) : (settleSecond s).arb = s.arb := by
  unfold settleSecond secondEffect
  split
  · split <;> rfl
  · rfl

theorem arb_settle (s : State) : (settle s).arb = s.arb := by
  rw [settle, arb_settleSecond, arb_settleExpiry, arb_settleTenMs, arb_settleRelease, arb_settleFault]

theorem arb_hostCleared (s : State) : (hostCleared s).arb = s.arb := rfl

theorem arb_answerDeferred (s : State) : (answerDeferred s).arb = s.arb :=
  (congrArg State.arb (answerDeferred_blocks s)).trans (setTrunk_arb s _)

theorem arb_hostResetEffect (s : State) : (hostResetEffect s).arb = s.arb := by
  rw [hostResetEffect_eq, arb_hostCleared, arb_answerDeferred]

/-- A host reset leaves the arbiter as it is. -/
theorem arb_hostReset (s : State) : (after .hostReset s).arb = s.arb := by
  have arb : (settle s).arb = s.arb := arb_settle s
  refine kept_hostReset (I := fun t => t.arb = s.arb) arb fun _ => ?_
  rw [arb_hostResetEffect, arb]

theorem arb_fullReset (s : State) : (after .fullReset s).arb = Arbiter.reset := rfl

/-- Settles O2: the order of the classes and of the contexts, by places; then who records a grant. -/
theorem arbiterGrantsByRotation : Obligations.ArbiterGrantsByRotation := by
  intro s
  extract_lets pending follows turn running
  have pending_iff (g : GrantClass) : s.classPending g = true ↔ pending g :=
    (classPending_iff s g).trans (by cases g <;> exact Iff.rfl)
  have order : classesAfter s.arb.lastGranted = (List.range 4).map turn := by
    simp only [turn]
    cases s.arb.lastGranted <;> rfl
  refine ⟨fun loading => ?_, fun ended => ⟨fun g => ?_, ?_⟩, nextSearch_eq_some_iff s, fun n served => ?_,
    fun c n h served => ⟨_, exec_fetch served, rfl⟩, fun settled granted => ?_, fun settled granted => ?_,
    ⟨_, exec_eq_next _ _, arb_fullReset s⟩, ⟨_, exec_eq_next _ _, arb_hostReset s⟩,
    ⟨_, rfl, arb_settleFault s⟩⟩
  · rw [State.nextGrant, if_neg (by simp [loading])]
  · rw [State.nextGrant, if_pos ended, order, find?_map_range_eq_some]
    simp only [pending_iff]
  · rw [nextGrant_eq_none_iff ended]
    simp only [pending_iff]
  · refine ⟨_, exec_collect served, ?_⟩
    exact (keepsBut_performCollect (s.commandSlot n) (takeCommand s)).2 .arb (by decide)
  · obtain ⟨k, r, next, runs⟩ := exists_nextSearch granted
    exact ⟨_, k, next, exec_searchStep settled granted next runs, (endSearch_others _ _ _ _).1⟩
  · refine ⟨_, exec_sweep settled granted, ?_⟩
    exact (slotsLeft_sweepAll (s := takeSweep s)).keeps.2 .arb (by decide)

end Sys2Proof.Proofs
end

section
/-! PROOFS. The resets and their releases, and load end (10.6, 11.1, 11.6). -/

namespace Sys2Proof.Proofs

open Sys2Proof.Machine Sys2Proof.Laws

variable {s t : State}

/-! ## Full reset (R186) -/

/-- Every slot FREE with generation 0. -/
theorem slot_fullReset (s : State) (i : SlotNo) : (after .fullReset s).slot i = { generation := 0, entry := none } := by
  simp only [after, exec, execFullReset, State.slot, State.reset, Directory.reset]
  exact Vector.getElem_replicate _

theorem dir_fullReset (s : State) : (after .fullReset s).dir = Directory.reset := rfl

theorem free_fullReset (s : State) : (after .fullReset s).dir.free = allSlots := by
  rw [dir_fullReset, Directory.reset]

theorem collectCursor_fullReset (s : State) : (after .fullReset s).dir.collectCursor = 255 := by
  rw [dir_fullReset, Directory.reset]

theorem searchContext_fullReset (s : State) (k : Fin 4) : (after .fullReset s).searchContext k = .idle := by
  simp only [after, exec, execFullReset, State.searchContext, State.reset]
  exact Vector.getElem_replicate _

theorem context_fullReset (s : State) (c : Fin 6) : (after .fullReset s).context c = TrunkContext.idleWith 0 := by
  simp only [after, exec, execFullReset, State.context, State.reset, TrunkUnit.reset]
  exact Vector.getElem_replicate _

/-- A slot of the port at reset is EMPTY, and every byte of it 00h. -/
theorem cleared_of_reset {slots : Vector CommandSlot 4} (reset : slots = HostPort.reset.slots) (n : Fin 4) :
    slots[n].state = .empty ∧ ∀ o, slots[n].byte o = 0x00 := by
  have slot : slots[n] = CommandSlot.cleared := by
    rw [reset]
    exact Vector.getElem_replicate _
  rw [slot]
  exact ⟨rfl, fun o => Vector.getElem_replicate _⟩

theorem commandSlot_fullReset (s : State) (n : Fin 4) : ((after .fullReset s).commandSlot n).state = .empty
    ∧ ∀ o, ((after .fullReset s).commandSlot n).byte o = 0x00 := by
  have slots : (after .fullReset s).port.slots = HostPort.reset.slots := rfl
  exact cleared_of_reset slots n

theorem resetLow_iff (s : State) : s.resetLow = true ↔ s.loader.phase = .held := by simp [State.resetLow]

theorem exec_loadStart (settled : s.settled = true) (held : s.loader.phase = .held) :
    exec .loadStart s = .next (s.setLoader { s.loader with phase := .reading }) := by
  simp only [exec, execLoadStart, settle_of_settled s settled, if_pos held]

/-- Settles O3: the blocks of the reset state, then the release of RESET. -/
theorem fullResetAndItsRelease : Obligations.FullResetAndItsRelease := by
  refine ⟨fun s => ⟨after .fullReset s, exec_eq_next _ _, rfl, rfl, rfl, rfl, slot_fullReset s, free_fullReset s,
    collectCursor_fullReset s, rfl, searchContext_fullReset s, rfl, rfl, rfl, rfl, rfl, rfl, rfl, rfl, rfl, rfl, rfl, rfl, rfl,
    context_fullReset s, rfl, rfl, commandSlot_fullReset s, rfl, rfl, rfl, rfl, rfl, rfl, rfl, rfl, rfl⟩, fun s settled low => ?_⟩
  exact ⟨_, exec_loadStart settled ((resetLow_iff s).mp low), keepsBut_setLoader _, rfl, rfl⟩

/-! ## Load end (R194) -/

/-- LOADING reads 1 until load end (R147). -/
theorem loading_portStatus (s : State) : s.portStatus.getLsbD 0 = !s.loadEnded := by
  have bit : ∀ a b : Bool, (BitVec.ofNat 8 (a.toNat + 2 * b.toNat)).getLsbD 0 = a := by decide
  exact bit _ _

/-- What load end leaves (R194). -/
def loadEnded (outcome : LoadOutcome) (set : Params) (made skipped : Nat) (s : State) : State :=
  (s.setParams set).setLoader { phase := .ended, outcome := outcome, presetsLoaded := made, presetsSkipped := skipped }

theorem exec_loadEnd {outcome : LoadOutcome} {set : Params} {made skipped : Nat} (settled : s.settled = true)
    (judged : s.loader.phase = .judged outcome set [] made skipped) :
    exec .loadEnd s = .next (setFlag .load (loadEnded outcome set made skipped s)) := by
  simp only [exec, execLoadEnd, settle_of_settled s settled, judged, loadEnded]

theorem keepsBut_loadEnded (outcome : LoadOutcome) (set : Params) (made skipped : Nat) :
    keepsBut [.loader, .params] s (loadEnded outcome set made skipped s) :=
  keepsBut_trans (keepsBut_mono (keepsBut_setParams set) (by simp)) (keepsBut_mono (keepsBut_setLoader _) (by simp))

/-- Settles O7: the last preset has been judged, so load end comes. -/
theorem loadEndOpensThePart : Obligations.LoadEndOpensThePart := by
  intro s outcome set made skipped settled judged
  have loading : s.loadEnded = false := by simp [State.loadEnded, judged]
  refine ⟨_, exec_loadEnd settled judged, ?_, rfl, rfl, rfl, rfl, ?_, ?_, ?_, rfl, rfl⟩
  · exact keepsBut_trans (keepsBut_mono (keepsBut_loadEnded _ _ _ _) (by simp)) (keepsBut_mono (keepsBut_setFlag _) (by simp))
  · exact setsFlags_congr_states (setFlag_setsFlags (loadEnded outcome set made skipped s) .load) rfl rfl
  · rw [loading_portStatus, loading]
    rfl
  · rw [loading_portStatus]
    rfl

/-! ## Host reset (R185) -/

/-- The waits of every context, answered DEFERRED (R137, R138). -/
theorem answerDeferred_spec (s : State) :
    (∀ c, (answerDeferred s).context c =
        if (s.context c).state = .awaitingHost then (s.context c).answeredWith .deferred else s.context c)
      ∧ (answerDeferred s).trunk.ready = s.trunk.ready
          ++ (List.finRange 6).filter (fun c => (s.context c).state = .awaitingHost)
      ∧ (answerDeferred s).trunk.received = s.trunk.received := by
  obtain ⟨contexts, ready, received⟩ := endWaits_spec s .deferred (fun t => decide (t.state = .awaitingHost))
  rw [answerDeferred]
  refine ⟨fun c => ?_, ready, received⟩
  rw [contexts c]
  exact ite_of_iff decide_eq_true_iff _ _

theorem keepsBut_answerDeferred (s : State) : keepsBut [.trunk] s (answerDeferred s) := by
  rw [answerDeferred_blocks]
  exact keepsBut_setTrunk _

/-- The blocks of the host's side that a host reset clears. -/
def clearedBlocks : List Block := [.dir, .search, .port, .notify, .doze]

theorem keepsBut_hostCleared (s : State) : keepsBut clearedBlocks s (hostCleared s) :=
  ⟨rfl, fun b hb => by cases b with | dir | search | port | notify | doze => simp [clearedBlocks] at hb | _ => rfl⟩

theorem keepsBut_hostResetEffect (s : State) : keepsBut (.trunk :: clearedBlocks) s (hostResetEffect s) := by
  rw [hostResetEffect_eq]
  exact keepsBut_trans (keepsBut_mono (keepsBut_answerDeferred s) (by simp)) (keepsBut_mono (keepsBut_hostCleared _) (by simp))

theorem withoutLocalLock_eq (e : Entry) : withoutLocalLock e
    = if e.lock.any (fun k => decide (k.holder = .loc)) then { e with lock := none } else e := by
  cases lock : e.lock <;> simp [withoutLocalLock, lock]

/-- R105: LOCAL owns a search context exactly when its owner byte is 0. -/
theorem idleLocalSearch_eq (x : SearchContext) : idleLocalSearch x = if x.ownerByte = 0x00 then .idle else x := by
  have trunk : ∀ c : Fin 6, BitVec.ofNat 8 (0x80 + c.val) ≠ 0x00#8 := by decide
  cases x with
  | idle => rfl
  | running r | done _ r =>
    cases owner : r.owner with
    | loc => simp [idleLocalSearch, SearchContext.ownerByte, owner]
    | trunk c =>
      simp only [idleLocalSearch, SearchContext.ownerByte, owner]
      exact (if_neg (trunk c)).symm

theorem search_hostResetEffect (s : State) (k : Fin 4) : (hostResetEffect s).searchContext k
    = if (s.searchContext k).ownerByte = 0x00 then .idle else s.searchContext k := by
  have kept : (answerDeferred s).searchContext k = s.searchContext k :=
    congrArg (fun v : Vector SearchContext 4 => v[k]) ((keepsBut_answerDeferred s).2 .search (by decide))
  rw [hostResetEffect_eq, searchContext_hostCleared, kept, idleLocalSearch_eq]

theorem slot_hostResetEffect (s : State) (i : SlotNo) : (hostResetEffect s).slot i = { s.slot i with
    entry := (s.entryOf i).map (fun e =>
      if e.lock.any (fun k => decide (k.holder = .loc)) then { e with lock := none } else e) } := by
  have kept : (answerDeferred s).slot i = s.slot i :=
    congrArg (fun d : Directory => d.slots[i]) ((keepsBut_answerDeferred s).2 .dir (by decide))
  have lock : withoutLocalLock
      = fun e => if e.lock.any (fun k => decide (k.holder = .loc)) then { e with lock := none } else e :=
    funext withoutLocalLock_eq
  rw [hostResetEffect_eq, slot_hostCleared, kept, dropLocalLock_eq, lock]
  rfl

theorem context_hostCleared (s : State) (c : Fin 6) : (hostCleared s).context c = s.context c := rfl

theorem collectCursor_hostCleared (s : State) : (hostCleared s).dir.collectCursor = 255 := rfl

theorem notify_hostCleared (s : State) : (hostCleared s).notify = { flags := 0x00, enables := 0x00, cause := 0x00 } := rfl

theorem doze_hostCleared (s : State) : (hostCleared s).doze = { host := .doze, wakeEnable := false, record := none } := rfl

/-- While HRST is low the outputs are released (R171, R183). -/
theorem outputs_of_hrstLow (low : s.port.hrstLow = true) : s.irq = false ∧ s.wakePin = false := by
  simp [State.irq, State.wakePin, low]

/-- HSEL is ignored while HRST is low (R147). -/
theorem hselFall_of_hrstLow (low : s.port.hrstLow = true) : hselFall s = s :=
  hselFall_of_not_listens s (by simp [State.portListens, low])

theorem exec_hostReset (settled : s.settled = true) (high : s.port.hrstLow = false) :
    exec .hostReset s = .next (hostResetEffect s) := by
  simp only [exec, execHostReset, settle_of_settled s settled, high, Bool.false_eq_true, if_false]

theorem exec_hostReset_of_low (settled : s.settled = true) (low : s.port.hrstLow = true) :
    exec .hostReset s = .next s := by
  simp only [exec, execHostReset, settle_of_settled s settled, low, if_true]

theorem exec_hostResetRelease (settled : s.settled = true) :
    exec .hostResetRelease s = .next (s.setPort { s.port with hrstLow := false }) := by
  simp only [exec, execHostResetRelease, settle_of_settled s settled]

/-- Settles O8: the waits are answered, then the host's side is cleared. -/
theorem hostResetClearsTheHostSide : Obligations.HostResetClearsTheHostSide := by
  intro s settled
  refine ⟨fun high => ⟨hostResetEffect s, exec_hostReset settled high, ?_⟩,
    fun low => ⟨exec_hostReset_of_low settled low, hselFall_of_hrstLow low⟩,
    ⟨_, exec_hostResetRelease settled, keepsBut_setPort _, rfl⟩⟩
  obtain ⟨contexts, ready, received⟩ := answerDeferred_spec s
  have free : (answerDeferred s).dir.free = s.dir.free :=
    congrArg Directory.free ((keepsBut_answerDeferred s).2 .dir (by decide))
  have port : (hostResetEffect s).port = { HostPort.reset with hrstLow := true } := by
    rw [hostResetEffect_eq, port_hostCleared]
  obtain ⟨irq, wakePin⟩ := outputs_of_hrstLow (s := hostResetEffect s) (by rw [port])
  refine ⟨keepsBut_mono (keepsBut_hostResetEffect s) (by simp [clearedBlocks]), cleared_of_reset (by rw [port]),
    by rw [port]; rfl, by rw [port], by rw [port]; rfl, by rw [State.hsdo, port]; rfl, slot_hostResetEffect s, ?_, ?_,
    search_hostResetEffect s, fun c => ?_, ?_, ?_, ?_, ?_, irq, wakePin⟩
  · rw [hostResetEffect_eq, free_hostCleared, free]
  · rw [hostResetEffect_eq, collectCursor_hostCleared]
  · rw [hostResetEffect_eq, context_hostCleared, contexts c]
  · rw [hostResetEffect_eq, trunk_hostCleared, ready]
  · rw [hostResetEffect_eq, trunk_hostCleared, received]
  · rw [hostResetEffect_eq, notify_hostCleared]
  · rw [hostResetEffect_eq, doze_hostCleared]

end Sys2Proof.Proofs
end

section
/-! PROOFS. The configuration load: the transfer, the judging of the image, an image written out and read back, the presets
(11.2 to 11.4, 12.5). -/

namespace Sys2Proof.Proofs

open Sys2Proof.Machine Sys2Proof.Laws

variable {s t : State}

/-! ## 16-bit fields -/

theorem toNat_ofNat_half {n : Nat} (small : n < 65536) : (BitVec.ofNat 16 n).toNat = n := by
  rw [BitVec.toNat_ofNat, Nat.mod_eq_of_lt small]

/-- The two bytes of a count give it back. -/
theorem half_countBytes (n : Nat) : half (hiByte (BitVec.ofNat 16 n)) (loByte (BitVec.ofNat 16 n)) = BitVec.ofNat 16 n :=
  half_hiByte_loByte _

/-- Two bytes are those of a count exactly when they give it. -/
theorem pair_eq_countBytes_iff {x y : Byte} {n : Nat} (small : n < 65536) :
    [x, y] = countBytes n ↔ (half x y).toNat = n := by
  constructor
  · intro same
    simp only [countBytes, halfBytes, List.cons.injEq, and_true] at same
    rw [same.1, same.2, half_countBytes, toNat_ofNat_half small]
  · intro given
    have hx := x.isLt
    have hy := y.isLt
    rw [toNat_half] at given
    have hi : hiByte (BitVec.ofNat 16 n) = x := BitVec.eq_of_toNat_eq (by
      rw [hiByte, toNat_ofNat_half small, BitVec.toNat_ofNat]
      omega)
    have lo : loByte (BitVec.ofNat 16 n) = y := BitVec.eq_of_toNat_eq (by
      rw [loByte, toNat_ofNat_half small, BitVec.toNat_ofNat]
      omega)
    rw [countBytes, halfBytes, hi, lo]

/-! ## The transfer (R187, R188) -/

/-- R187 step 5, as the bytes before the last and the last. -/
theorem receiveAll_eq (v : List Byte) : receiveAll v
    = v.dropLast.map (fun x => .receive x true) ++ v.getLast?.toList.map (fun x => .receive x false) := by
  induction v with
  | nil => rfl
  | cons x rest ih =>
    cases rest with
    | nil => rfl
    | cons y rest => simp [receiveAll, ih, List.getLast?_cons_cons]

/-- The marker and the length are as they should be. -/
def headerOk (bytes : List Byte) : Prop :=
  memoryAt bytes 0 = 0x5A ∧ 18 ≤ imageLength bytes ∧ imageLength bytes ≤ 512

theorem bytesWanted_of_ok {bytes : List Byte} (ok : headerOk bytes) : bytesWanted bytes = imageLength bytes := by
  obtain ⟨marker, long, short⟩ := ok
  rw [bytesWanted, if_neg (not_not_intro marker), if_pos ⟨long, short⟩]

theorem bytesWanted_of_not_ok {bytes : List Byte} (bad : ¬headerOk bytes) : bytesWanted bytes ≤ 3 := by
  unfold bytesWanted
  split
  · decide
  next marker =>
    split
    next sized => exact absurd ⟨Classical.not_not.mp marker, sized⟩ bad
    next => decide

theorem bytesWanted_eq (bytes : List Byte) : bytesWanted bytes = if memoryAt bytes 0 ≠ 0x5A then 1
    else if imageLength bytes < 18 ∨ 512 < imageLength bytes then 3 else imageLength bytes := by
  unfold bytesWanted
  by_cases sized : 18 ≤ imageLength bytes ∧ imageLength bytes ≤ 512
  · rw [if_pos sized, if_neg (c := _ ∨ _) (by omega)]
  · rw [if_neg sized, if_pos (c := _ ∨ _) (by omega)]

theorem length_readBytes (bytes : List Byte) : (readBytes bytes).length = bytesWanted bytes := by simp [readBytes]

/-! ## The judging (R188, R189) -/

/-- The sum of R189: of the bytes before it, modulo 65536. -/
def sumOf (body : List Byte) : Nat := ((body.map BitVec.toNat).foldl (· + ·) 0) % 65536

theorem sumOf_lt (body : List Byte) : sumOf body < 65536 := Nat.mod_lt _ (by decide)

/-- What judges the parts of an image whose sum and preset count are right. -/
def judgeParts (image : List Byte) : Option (Params × List Preset) :=
  let body := image.take (image.length - 2)
  match parseParams ((body.drop 3).take 12), parsePresets (image.getD 15 0).toNat (body.drop 16) with
  | some p, some presets => some (p, presets)
  | _, _ => none

/-- The last two bytes are the sum exactly when the image is its body and the sum. -/
theorem sum_iff {image : List Byte} (long : 2 ≤ image.length) :
    let body := image.take (image.length - 2)
    (half (image.getD (image.length - 2) 0) (image.getD (image.length - 1) 0)).toNat = sumOf body
      ↔ image = body ++ countBytes (sumOf body) := by
  intro body
  have last : image.drop (image.length - 2)
      = [image.getD (image.length - 2) 0, image.getD (image.length - 1) 0] := by
    rw [List.drop_eq_getElem_cons (by omega), List.drop_eq_getElem_cons (by omega), List.drop_eq_nil_of_le (by omega),
      getD_of_lt (by omega), getD_of_lt (by omega)]
    simp only [show image.length - 2 + 1 = image.length - 1 by omega]
  rw [← pair_eq_countBytes_iff (sumOf_lt body), ← last]
  have parts : image = body ++ image.drop (image.length - 2) := (List.take_append_drop _ _).symm
  constructor
  · intro same
    rw [← same, ← parts]
  · intro same
    exact List.append_cancel_left (parts.symm.trans same)

theorem judgeImage_eq {image : List Byte} (long : 2 ≤ image.length) :
    let body := image.take (image.length - 2)
    judgeImage image = if image = body ++ countBytes (sumOf body) ∧ (image.getD 15 0).toNat ≤ 8 then judgeParts image
      else none := by
  intro body
  exact ite_of_iff (and_congr (sum_iff long) Iff.rfl) _ _

/-- R189: the tests on marker, length, sum and preset count. -/
def imageOk (bytes : List Byte) : Prop :=
  let image := readBytes bytes
  let body := image.take (imageLength bytes - 2)
  headerOk bytes ∧ image = body ++ countBytes (sumOf body) ∧ (image.getD 15 0).toNat ≤ 8

theorem judgeRead_of_ok {bytes : List Byte} (ok : imageOk bytes) :
    judgeRead (readBytes bytes) = judgeParts (readBytes bytes) := by
  obtain ⟨header, sum, count⟩ := ok
  have length : (readBytes bytes).length = imageLength bytes := by rw [length_readBytes, bytesWanted_of_ok header]
  obtain ⟨-, long, -⟩ := header
  rw [← length] at long sum
  rw [judgeRead, if_pos long, judgeImage_eq (by omega), if_pos ⟨sum, count⟩]

theorem judgeRead_of_not_ok {bytes : List Byte} (bad : ¬imageOk bytes) : judgeRead (readBytes bytes) = none := by
  by_cases header : headerOk bytes
  · have length : (readBytes bytes).length = imageLength bytes := by rw [length_readBytes, bytesWanted_of_ok header]
    have long : 18 ≤ (readBytes bytes).length := length ▸ header.2.1
    rw [judgeRead, if_pos long, judgeImage_eq (by omega), length, if_neg fun rest => bad ⟨header, rest⟩]
  · have short := bytesWanted_of_not_ok header
    rw [← length_readBytes] at short
    rw [judgeRead, if_neg (by omega)]

theorem exec_configRead {a b c d : Bool} {bytes : List Byte} (settled : s.settled = true)
    (reading : s.loader.phase = .reading) : exec (.configRead a b c d bytes) s
      = .next (s.setLoader { s.loader with phase := readPhase (transfer a b c d bytes) }) := by
  simp only [exec, execConfigRead, settle_of_settled s settled, if_pos reading]

theorem readPhase_of_refused {a b c d : Bool} {bytes : List Byte} (refused : (a && b && c && d) = false) :
    readPhase (transfer a b c d bytes) = .judged .absent Params.defaults [] 0 0 := by
  rw [readPhase_transfer, if_neg (by simp [refused])]

theorem readPhase_of_loaded {a b c d : Bool} {bytes : List Byte} {p : Params} {presets : List Preset}
    (all : (a && b && c && d) = true) (judged : judgeRead (readBytes bytes) = some (p, presets)) :
    readPhase (transfer a b c d bytes) = .judged .loaded p presets 0 0 := by
  rw [readPhase_transfer, if_pos all, judged]

theorem readPhase_of_rejected {a b c d : Bool} {bytes : List Byte} (all : (a && b && c && d) = true)
    (judged : judgeRead (readBytes bytes) = none) :
    readPhase (transfer a b c d bytes) = .judged .rejected Params.defaults [] 0 0 := by
  rw [readPhase_transfer, if_pos all, judged]

/-- Settles O4: the transfer byte by byte, then the tests in their order. -/
theorem configReadJudgesTheImage : Obligations.ConfigReadJudgesTheImage := by
  intro s a b c d bytes settled reading
  extract_lets shifted n wanted image body judged
  have image_eq : image = readBytes bytes := by
    rw [readBytes, bytesWanted_eq]
    rfl
  have judged_iff : judged ↔ imageOk bytes := by
    simp only [judged, imageOk, headerOk, ← image_eq, and_assoc]
    exact Iff.rfl
  have header (ok : imageOk bytes) : (readBytes bytes).length = n := by
    rw [length_readBytes, bytesWanted_of_ok ok.1]
    rfl
  refine ⟨⟨rfl, rfl, rfl, rfl, ?_⟩, _, exec_configRead settled reading, keepsBut_setLoader _, rfl, rfl, rfl,
    readPhase_of_refused, fun all => ?_⟩
  · rw [image_eq]
    simp only [transfer, sendThen, if_true, receiveAll_eq, List.cons_append, List.nil_append, List.append_assoc]
  · constructor
    · intro p presets passes params structured
      have ok := judged_iff.mp passes
      have parts : judgeParts (readBytes bytes) = some (p, presets) := by
        rw [judgeParts, header ok, ← image_eq]
        simp only [body] at params structured
        simp only [params, structured]
      exact readPhase_of_loaded all (by rw [judgeRead_of_ok ok, parts])
    · intro fails
      refine readPhase_of_rejected all ?_
      by_cases ok : imageOk bytes
      · rw [judgeRead_of_ok ok, judgeParts, header ok, ← image_eq]
        simp only [body] at fails
        rcases fails with bad | params | structured
        · exact absurd (judged_iff.mpr ok) bad
        · simp only [params]
        · simp only [structured]
          split
          next none_left => cases none_left
          next => rfl
      · exact judgeRead_of_not_ok ok

end Sys2Proof.Proofs
end

section
/-! PROOFS. An image written out and read back; the presets of an image (11.3, 11.4, 12.5). -/

namespace Sys2Proof.Proofs

open Sys2Proof.Machine Sys2Proof.Laws

variable {s t : State}

/-! ## The parts of an image, read back -/

theorem toNat_ofNat_byte {n : Nat} (small : n < 256) : (BitVec.ofNat 8 n).toNat = n := by
  rw [BitVec.toNat_ofNat, Nat.mod_eq_of_lt small]

theorem linkSpeedOf_toByte (speed : LinkSpeed) : linkSpeedOf speed.toByte = some speed := by cases speed <;> rfl

/-- The flags byte of the parameters gives both flags back. -/
theorem trunkFlags_bits (a b : Bool) : (BitVec.ofNat 8 (a.toNat + 2 * b.toNat)).getLsbD 0 = a
    ∧ (BitVec.ofNat 8 (a.toNat + 2 * b.toNat)).getLsbD 1 = b
    ∧ (BitVec.ofNat 8 (a.toNat + 2 * b.toNat)).toNat < 4 := by
  revert a b
  decide

theorem parseParams_bytes {p : Params} (ok : p.inRange = true) : parseParams p.bytes = some p := by
  obtain ⟨-, -, -, leases, leaseMax, grace, -, lockMax, -, fwd, -, divider⟩ := inRange_iff.mp ok
  obtain ⟨watch, wake, flags⟩ := trunkFlags_bits p.trunkWatch p.trunkWake
  simp only [Params.bytes, countBytes, halfBytes, List.cons_append, List.nil_append, parseParams, linkSpeedOf_toByte,
    half_countBytes, watch, wake, flags, true_and]
  rw [toNat_ofNat_half (by omega : p.leaseMin < 65536), toNat_ofNat_half (by omega : p.leaseMax < 65536),
    toNat_ofNat_half (by omega : p.msDivider < 65536), toNat_ofNat_byte (by omega : p.grace < 256),
    toNat_ofNat_byte (by omega : p.lockMax < 256), toNat_ofNat_byte (by omega : p.fwdDeadline < 256), if_pos ok]

theorem takePairs_bytes (attrs : List Attr) (rest : List Byte) :
    takePairs attrs.length (attrs.flatMap (fun a => a.id :: halfBytes a.value) ++ rest) = some (attrs, rest) := by
  induction attrs with
  | nil => rfl
  | cons a attrs ih =>
    simp only [List.length_cons, List.flatMap_cons, halfBytes, List.cons_append, List.nil_append, takePairs,
      half_hiByte_loByte] at ih ⊢
    rw [ih]

theorem parsePreset_bytes {x : Preset} (spare : Byte) (rest : List Byte) (tag : x.tag.length ≤ 255)
    (attrs : x.attrs.length ≤ 255) : parsePreset (x.bytes spare ++ rest) = some (x, rest) := by
  simp only [Preset.bytes, List.cons_append, List.append_assoc, parsePreset, toNat_ofNat_byte (by omega : x.tag.length < 256),
    List.drop_left, List.take_left, List.nil_append, toNat_ofNat_byte (by omega : x.attrs.length < 256), takePairs_bytes]

theorem parsePresets_bytes {presets : List Preset} (spare : Byte)
    (short : ∀ x ∈ presets, x.tag.length ≤ 255 ∧ x.attrs.length ≤ 255) :
    parsePresets presets.length (presets.flatMap (Preset.bytes spare)) = some presets := by
  induction presets with
  | nil => rfl
  | cons x presets ih =>
    obtain ⟨tag, attrs⟩ := short x List.mem_cons_self
    have later := ih fun y mem => short y (List.mem_cons_of_mem x mem)
    simp only [List.length_cons, List.flatMap_cons, parsePresets, parsePreset_bytes spare _ tag attrs, later]

/-! ## The whole image -/

/-- What follows the marker and the length of an image, before its sum. -/
def imageTail (p : Params) (presets : List Preset) (spare : Byte) : List Byte :=
  p.bytes ++ BitVec.ofNat 8 presets.length :: presets.flatMap (Preset.bytes spare)

theorem imageBody_eq (p : Params) (presets : List Preset) (spare : Byte) : imageBody p presets spare
    = 0x5A :: countBytes ((imageTail p presets spare).length + 5) ++ imageTail p presets spare := rfl

theorem imageOf_eq (p : Params) (presets : List Preset) (spare : Byte) : imageOf p presets spare
    = imageBody p presets spare ++ countBytes (sumOf (imageBody p presets spare)) := rfl

theorem length_countBytes (n : Nat) : (countBytes n).length = 2 := rfl

theorem length_imageBody (p : Params) (presets : List Preset) (spare : Byte) :
    (imageBody p presets spare).length = (imageTail p presets spare).length + 3 := by
  rw [imageBody_eq, List.length_append, List.length_cons, length_countBytes]
  omega

theorem length_imageOf (p : Params) (presets : List Preset) (spare : Byte) :
    (imageOf p presets spare).length = (imageTail p presets spare).length + 5 := by
  rw [imageOf_eq, List.length_append, length_imageBody, length_countBytes]

theorem length_imageTail (p : Params) (presets : List Preset) (spare : Byte) : 13 ≤ (imageTail p presets spare).length := by
  have params : p.bytes.length = 12 := rfl
  rw [imageTail, List.length_append, List.length_cons, params]
  omega

/-- Within the bytes that are given, the memory shifts them out. -/
theorem memoryAt_of_lt {bytes : List Byte} {k : Nat} (within : k < bytes.length) : memoryAt bytes k = bytes[k] :=
  getD_of_lt within

theorem readBytes_of_wanted {bytes beyond : List Byte} (wanted : bytesWanted (bytes ++ beyond) = bytes.length) :
    readBytes (bytes ++ beyond) = bytes := by
  rw [readBytes, wanted]
  refine List.ext_getElem (by simp) fun k _ within => ?_
  simp only [List.getElem_map, List.getElem_range]
  rw [memoryAt_of_lt (by rw [List.length_append]; omega), List.getElem_append_left]

/-- The header of an image states its length. -/
theorem imageLength_imageOf (p : Params) (presets : List Preset) (spare : Byte) (beyond : List Byte)
    (short : (imageOf p presets spare).length ≤ 512) :
    imageLength (imageOf p presets spare ++ beyond) = (imageOf p presets spare).length := by
  rw [length_imageOf] at short
  rw [length_imageOf, imageLength]
  change (half (hiByte (BitVec.ofNat 16 ((imageTail p presets spare).length + 5)))
    (loByte (BitVec.ofNat 16 ((imageTail p presets spare).length + 5)))).toNat = _
  rw [half_hiByte_loByte, toNat_ofNat_half (by omega)]

theorem headerOk_imageOf (p : Params) (presets : List Preset) (spare : Byte) (beyond : List Byte)
    (short : (imageOf p presets spare).length ≤ 512) : headerOk (imageOf p presets spare ++ beyond) := by
  have long := length_imageTail p presets spare
  have length := length_imageOf p presets spare
  exact ⟨rfl, by rw [imageLength_imageOf _ _ _ _ short]; omega, by rw [imageLength_imageOf _ _ _ _ short]; omega⟩

/-- The parts of an image: its body, its count, its parameters and its presets. -/
theorem take_imageOf (p : Params) (presets : List Preset) (spare : Byte) :
    (imageOf p presets spare).take ((imageOf p presets spare).length - 2) = imageBody p presets spare := by
  rw [length_imageOf, imageOf_eq]
  exact List.take_left' (by rw [length_imageBody]; omega)

theorem count_imageOf (p : Params) (presets : List Preset) (spare : Byte) :
    (imageOf p presets spare).getD 15 0 = BitVec.ofNat 8 presets.length := rfl

theorem params_imageBody (p : Params) (presets : List Preset) (spare : Byte) :
    ((imageBody p presets spare).drop 3).take 12 = p.bytes := rfl

theorem presets_imageBody (p : Params) (presets : List Preset) (spare : Byte) :
    (imageBody p presets spare).drop 16 = presets.flatMap (Preset.bytes spare) := rfl

/-- Settles O5: the header gives the length back, and each part of the body parses to what it was written from. -/
theorem writtenImageIsReadBack : Obligations.WrittenImageIsReadBack := by
  intro p presets spare beyond ranges count fields short
  have length := imageLength_imageOf p presets spare beyond short
  have header := headerOk_imageOf p presets spare beyond short
  have read : readBytes (imageOf p presets spare ++ beyond) = imageOf p presets spare :=
    readBytes_of_wanted ((bytesWanted_of_ok header).trans length)
  have small : (BitVec.ofNat 8 presets.length).toNat = presets.length := toNat_ofNat_byte (by omega)
  have ok : imageOk (imageOf p presets spare ++ beyond) := by
    simp only [imageOk, read, length, take_imageOf, count_imageOf, small]
    exact ⟨header, imageOf_eq p presets spare, count⟩
  have judged := judgeRead_of_ok ok
  rw [read] at judged
  refine ⟨read, judged.trans ?_⟩
  simp only [judgeParts, take_imageOf, count_imageOf, params_imageBody, presets_imageBody, small,
    parseParams_bytes ranges, parsePresets_bytes spare fields]

/-! ## Presets (R191, R192) -/

theorem idsAscend_of_ascending {l : List Attr} (ascending : idsAscending l)
    (ids : ∀ a ∈ l, 1 ≤ a.id.toNat ∧ a.id.toNat ≤ 254) : idsAscend l = true := by
  induction l with
  | nil => rfl
  | cons a rest ih =>
    obtain ⟨above, later⟩ := List.pairwise_cons.mp ascending
    obtain ⟨low, high⟩ := ids a List.mem_cons_self
    have rest_ok := ih later fun b mem => ids b (List.mem_cons_of_mem a mem)
    cases rest with
    | nil => simp [idsAscend, low, high]
    | cons b rest =>
      have below := above b List.mem_cons_self
      simp only [idsAscend, rest_ok, decide_eq_true low, decide_eq_true below, Bool.and_self]

/-- The tests of R191 on the fields of a preset. -/
structure PresetOk (p : Preset) : Prop where
  tag : 1 ≤ p.tag.length ∧ p.tag.length ≤ 16
  visibility : p.visibility.toNat ≤ 2
  reach : p.reach.toNat ≤ 111
  few : p.attrs.length ≤ 6
  ids : ∀ a ∈ p.attrs, 1 ≤ a.id.toNat ∧ a.id.toNat ≤ 254
  ascending : idsAscending p.attrs

/-- The entry that R192 gives a preset, with its reach and its visibility decoded. -/
def entryFrom (p : Preset) (reach : Option Byte) (visibility : Visibility) : Entry :=
  { origin := .loc, tag := p.tag, cls := p.cls, reach := reach, visibility := visibility, watch := p.flags.getLsbD 0,
    wake := p.flags.getLsbD 1, leaseLength := none, life := .live none, lock := none, attrs := p.attrs, marks := {} }

theorem presetEntry_of_ok {p : Preset} (ok : PresetOk p) : ∃ r v, reachOf p.reach = some r
    ∧ visibilityOf p.visibility = some v ∧ presetEntry p = some (entryFrom p r v) := by
  obtain ⟨r, v, reach, visibility⟩ := fields_in_range ok.reach ok.visibility
  refine ⟨r, v, reach, visibility, ?_⟩
  rw [presetEntry, if_pos ⟨ok.tag.1, ok.tag.2, ok.few, idsAscend_of_ascending ok.ascending ok.ids⟩]
  simp only [reach, visibility, entryFrom]

/-- A preset that gives an entry passes the tests on its fields, and gives it its tag. -/
theorem ok_of_presetEntry {p : Preset} {e : Entry} (judged : presetEntry p = some e) : PresetOk p ∧ e.tag = p.tag := by
  unfold presetEntry at judged
  split at judged
  next tests =>
    obtain ⟨short, long, few, ids⟩ := tests
    obtain ⟨ascending, inside⟩ := ascending_of_idsAscend ids
    split at judged
    next reach visibility =>
      cases judged
      refine ⟨⟨⟨short, long⟩, ?_, ?_, few, inside, ascending⟩, rfl⟩
      · exact Nat.not_lt.mp fun out => by simp [(visibilityOf_eq_none_iff _).mpr out] at visibility
      · exact Nat.not_lt.mp fun out => by simp [(reachOf_eq_none_iff _).mpr out] at reach
    · cases judged
  · cases judged

/-- A preset that fails a test on its fields, or whose tag is taken, is not placed. -/
theorem placePreset_of_fails {p : Preset} (fails : PresetOk p → tagTaken p.tag s) : placePreset p s = none := by
  unfold placePreset
  split
  · rfl
  next e judged =>
    obtain ⟨ok, tag⟩ := ok_of_presetEntry judged
    have taken : s.findTag e.tag ≠ none := fun free => (findTag_eq_none_iff e.tag).mp free (tag ▸ fails ok)
    rw [if_pos (Option.isSome_iff_ne_none.mpr taken)]

theorem placePreset_of_passes {p : Preset} {e : Entry} {i : SlotNo} (judged : presetEntry p = some e)
    (free : ¬tagTaken e.tag s) (allocated : allocate e s = some (t, i)) : placePreset p s = some t := by
  rw [placePreset, judged]
  simp only [(findTag_eq_none_iff e.tag).mpr free, Option.isSome_none, Bool.false_eq_true, if_false, allocated,
    Option.map_some]

section Row

variable {outcome : LoadOutcome} {set : Params} {p : Preset} {left : List Preset} {made skipped : Nat}

theorem after_presetCreate_of_placed (settled : s.settled = true)
    (judged : s.loader.phase = .judged outcome set (p :: left) made skipped) (placed : placePreset p s = some t) :
    after .presetCreate s = t.setLoader { t.loader with phase := .judged outcome set left (made + 1) skipped } := by
  simp only [after, exec, execPresetCreate, settle_of_settled s settled, judged, placed]

theorem after_presetCreate_of_skipped (settled : s.settled = true)
    (judged : s.loader.phase = .judged outcome set (p :: left) made skipped) (skip : placePreset p s = none) :
    after .presetCreate s = s.setLoader { s.loader with phase := .judged outcome set left made (skipped + 1) } := by
  simp only [after, exec, execPresetCreate, settle_of_settled s settled, judged, skip]

end Row

/-- Settles O6: the tests of R191 hold exactly where the row makes an entry. -/
theorem presetIsCreatedOrSkipped : Obligations.PresetIsCreatedOrSkipped := by
  intro s outcome set p left made skipped settled judged passes
  refine ⟨after .presetCreate s, exec_eq_next _ _, fun passed i rest free => ?_, fun failed => ?_⟩
  · obtain ⟨short, long, fresh, visibility, reach, few, ids, ascending⟩ := passed
    obtain ⟨r, v, reachOk, visibilityOk, entry⟩ := presetEntry_of_ok ⟨⟨short, long⟩, visibility, reach, few, ids, ascending⟩
    have allocated := allocate_of_cons s (entryFrom p r v) i rest free
    have keep := keepsBut_allocate allocated
    rw [after_presetCreate_of_placed settled judged (placePreset_of_passes entry fresh allocated)]
    refine ⟨⟨entryFrom p r v, allocatesSlot_of_dir s rfl allocated rfl, rfl, rfl, rfl, reachByte_of_reachOf reachOk,
      toByte_of_visibilityOf visibilityOk, rfl, rfl, rfl, rfl, rfl, rfl, rfl⟩, ?_, rfl⟩
    exact keepsBut_trans (keepsBut_mono keep (by simp)) (keepsBut_mono (keepsBut_setLoader _) (by simp))
  · have skip : placePreset p s = none := placePreset_of_fails fun ok => Classical.not_not.mp fun fresh =>
      failed ⟨ok.tag.1, ok.tag.2, fresh, ok.visibility, ok.reach, ok.few, ok.ids, ok.ascending⟩
    rw [after_presetCreate_of_skipped settled judged skip]
    exact ⟨keepsBut_setLoader _, rfl⟩

end Sys2Proof.Proofs
end

section
/-! PROOFS. The attribute edits of the host and of a node: one order of judging, one way of writing (2.6). -/

namespace Sys2Proof.Proofs

open Sys2Proof.Machine Sys2Proof.Laws

variable {s t : State}

/-! ## Pairs (R17, R42, R43) -/

theorem isPut_putPair (a : Attr) (l : List Attr) : isPut a l (putPair a l) := fun ascending =>
  ⟨fun _ => mem_putPair ascending, ascending_putPair ascending⟩

theorem isDrop_dropPair (id : Byte) (l : List Attr) : isDrop id l (dropPair id l) := rfl

theorem hasPair_eq_false_iff (id : Byte) (l : List Attr) : hasPair id l = false ↔ ∀ a ∈ l, a.id ≠ id := by
  rw [← Bool.not_eq_true, hasPair_iff]
  simp

/-! ## The judging (R41) -/

theorem id_in_range_iff (id : Byte) : (1 ≤ id.toNat ∧ id.toNat ≤ 254) ↔ ¬(id.toNat = 0 ∨ id.toNat = 255) := by
  have := id.isLt
  omega

theorem judgeEdit_takeCommand (who : Party) (force : Bool) (h : Handle) (id : Byte) :
    judgeEdit who force h id (takeCommand s) = judgeEdit who force h id s := by
  simp only [judgeEdit, lookup_takeCommand]

theorem judgeEdit_takeRequest (who : Party) (force : Bool) (h : Handle) (id : Byte) :
    judgeEdit who force h id (takeRequest s) = judgeEdit who force h id s := by
  simp only [judgeEdit, lookup_takeRequest]

theorem judgeEdit_of_bad_id {who : Party} {force : Bool} {h : Handle} {id : Byte} (bad : id.toNat = 0 ∨ id.toNat = 255) :
    judgeEdit who force h id s = .error .badParam := by
  rw [judgeEdit, if_neg fun ok => (id_in_range_iff id).mp ok bad]

theorem judgeEdit_of_unknown {who : Party} {force : Bool} {h : Handle} {id : Byte}
    (good : ¬(id.toNat = 0 ∨ id.toNat = 255)) (unknown : s.lookup h = none) :
    judgeEdit who force h id s = .error .unknown := by
  rw [judgeEdit, if_pos ((id_in_range_iff id).mpr good), unknown]

/-- The tests on an entry, for LOCAL. -/
theorem judgeEdit_loc {force : Bool} {h : Handle} {id : Byte} {i : SlotNo} {e : Entry}
    (good : ¬(id.toNat = 0 ∨ id.toNat = 255)) (found : s.lookup h = some (i, e)) : judgeEdit .loc force h id s
      = if e.life = .spent then .error .inactive else if barsHost force e = true then .error .locked else .ok (i, e) := by
  rw [judgeEdit, if_pos ((id_in_range_iff id).mpr good), found]
  simp only [closedTo, ownedBy, lockBars_loc, Bool.false_eq_true, if_false, Bool.not_true, ne_eq, not_true, decide_false,
    Bool.false_and, Bool.or_false, isSpent_iff]

/-- The tests on an entry, for a node. -/
theorem judgeEdit_node {m : Byte} {h : Handle} {id : Byte} {i : SlotNo} {e : Entry}
    (good : ¬(id.toNat = 0 ∨ id.toNat = 255)) (found : s.lookup h = some (i, e)) : judgeEdit (.node m) false h id s
      = if e.visibility = .closed then .error .unknown
        else if e.origin ≠ .trunk m then .error .notOwner
        else if e.life.isLive = false then .error .inactive
        else if barsNode m e = true then .error .locked
        else .ok (i, e) := by
  have notLive : (e.life.isSpent || (decide (Party.node m ≠ .loc) && e.life.isStale)) = true ↔ e.life.isLive = false := by
    cases e.life <;> simp [Life.isSpent, Life.isStale, Life.isLive]
  rw [judgeEdit, if_pos ((id_in_range_iff id).mpr good), found]
  simp only [closedTo_node_iff, not_ownedBy_node_iff, lockBars_node, notLive]

/-! ## One way to edit the pairs -/

/-- Both edits: the judging, a test on the entry's pairs, then the pairs written (R41 to R43). -/
def editPairs (refusal : ResultCode) (barred : List Attr → Bool) (edit : List Attr → List Attr) (who : Party) (force : Bool)
    (h : Handle) (id : Byte) (s : State) : Except ResultCode State :=
  match judgeEdit who force h id s with
  | .error code => .error code
  | .ok (i, e) => if barred e.attrs = true then .error refusal else .ok (writePairs who i e (edit e.attrs) s)

/-- A put finds no place in a full list. -/
def noPlace (id : Byte) (l : List Attr) : Bool := !hasPair id l && decide (6 ≤ l.length)

theorem noPlace_iff (id : Byte) (l : List Attr) : noPlace id l = true ↔ (∀ a ∈ l, a.id ≠ id) ∧ 6 ≤ l.length := by
  simp [noPlace, hasPair_eq_false_iff]

/-- A drop finds no pair. -/
def noPair (id : Byte) (l : List Attr) : Bool := !hasPair id l

theorem noPair_iff (id : Byte) (l : List Attr) : noPair id l = true ↔ ∀ a ∈ l, a.id ≠ id := by
  simp [noPair, hasPair_eq_false_iff]

theorem putAttr_eq_editPairs (who : Party) (force : Bool) (h : Handle) (id : Byte) (value : Half) (s : State) :
    putAttr who force h id value s = editPairs .attrFull (noPlace id) (putPair { id := id, value := value }) who force h id s := by
  unfold putAttr editPairs
  cases judgeEdit who force h id s with
  | error code => rfl
  | ok p => exact ite_of_iff (by simp [noPlace]) _ _

theorem dropAttr_eq_editPairs (who : Party) (force : Bool) (h : Handle) (id : Byte) (s : State) :
    dropAttr who force h id s = editPairs .noAttr (noPair id) (dropPair id) who force h id s := by
  unfold dropAttr editPairs
  cases judgeEdit who force h id s with
  | error code => rfl
  | ok p =>
    obtain ⟨i, e⟩ := p
    cases has : hasPair id e.attrs <;> simp [noPair, has]

section Edit

variable {refusal : ResultCode} {barred : List Attr → Bool} {edit : List Attr → List Attr} {who : Party} {force : Bool}
  {h : Handle} {id : Byte} {i : SlotNo} {e : Entry}

theorem editPairs_of_error {code : ResultCode} (judged : judgeEdit who force h id s = .error code) :
    editPairs refusal barred edit who force h id s = .error code := by simp only [editPairs, judged]

theorem editPairs_of_barred (judged : judgeEdit who force h id s = .ok (i, e)) (bars : barred e.attrs = true) :
    editPairs refusal barred edit who force h id s = .error refusal := by simp only [editPairs, judged, bars, if_true]

theorem editPairs_of_ok (judged : judgeEdit who force h id s = .ok (i, e)) (free : ¬barred e.attrs = true) :
    editPairs refusal barred edit who force h id s = .ok (writePairs who i e (edit e.attrs) s) := by
  simp only [editPairs, judged, if_neg free]

end Edit

/-! ## The host (PUT_ATTR, DROP_ATTR) -/

theorem exec_putAttr {n : Fin 4} (served : servesCommand n 0x03 s) :
    exec .putAttr s = .next (finishCommand n (performPutAttr (s.commandSlot n) (takeCommand s))) :=
  congrArg Host.Outcome.next (commandGrant_isCode performPutAttr served)

theorem exec_dropAttr {n : Fin 4} (served : servesCommand n 0x04 s) :
    exec .dropAttr s = .next (finishCommand n (performDropAttr (s.commandSlot n) (takeCommand s))) :=
  congrArg Host.Outcome.next (commandGrant_isCode performDropAttr served)

/-- The refusals of R41 for LOCAL, in its order, around what an accepted edit does. -/
theorem host_judged {n : Fin 4} {force : Bool} {h : Handle} {id : Byte} {content : SlotNo → Entry → Prop}
    (refuses : ∀ code, judgeEdit .loc force h id s = .error code → completesWith n code [] [] s t)
    (does : ∀ i e, judgeEdit .loc force h id s = .ok (i, e) → content i e) :
    if id.toNat = 0 ∨ id.toNat = 255 then completesWith n .badParam [] [] s t
    else
      match s.lookup h with
      | none => completesWith n .unknown [] [] s t
      | some (i, e) =>
        if e.life = .spent then completesWith n .inactive [] [] s t
        else if barsHost force e = true then completesWith n .locked [] [] s t
        else content i e := by
  by_cases bad : id.toNat = 0 ∨ id.toNat = 255
  · rw [if_pos bad]
    exact refuses _ (judgeEdit_of_bad_id bad)
  rw [if_neg bad]
  cases found : s.lookup h with
  | none => exact refuses _ (judgeEdit_of_unknown bad found)
  | some p =>
    obtain ⟨i, e⟩ := p
    have judged := judgeEdit_loc (force := force) bad found
    by_cases spent : e.life = .spent
    · simp only [if_pos spent] at judged ⊢
      exact refuses _ judged
    by_cases locked : barsHost force e = true
    · simp only [if_neg spent, if_pos locked] at judged ⊢
      exact refuses _ judged
    · simp only [if_neg spent, if_neg locked] at judged ⊢
      exact does i e judged

section Host

variable {n : Fin 4} {refusal : ResultCode} {barred : List Attr → Bool} {edit : List Attr → List Attr} {force : Bool}
  {h : Handle} {id : Byte} {i : SlotNo} {e : Entry}

/-- The slot of an edit of the host, when the edit is over. -/
def editedByHost (n : Fin 4) (refusal : ResultCode) (barred : List Attr → Bool) (edit : List Attr → List Attr) (force : Bool)
    (h : Handle) (id : Byte) (s : State) : State :=
  finishCommand n (finishPlain (takeCommand s) (editPairs refusal barred edit .loc force h id (takeCommand s)))

theorem editedByHost_of_error (head : s.commandHead = some n) (code : ResultCode)
    (judged : judgeEdit .loc force h id s = .error code) :
    completesWith n code [] [] s (editedByHost n refusal barred edit force h id s) := by
  rw [editedByHost, editPairs_of_error ((judgeEdit_takeCommand _ _ _ _).trans judged)]
  exact finishPlain_error head code

theorem editedByHost_of_barred (head : s.commandHead = some n) (judged : judgeEdit .loc force h id s = .ok (i, e))
    (bars : barred e.attrs = true) :
    completesWith n refusal [] [] s (editedByHost n refusal barred edit force h id s) := by
  rw [editedByHost, editPairs_of_barred ((judgeEdit_takeCommand _ _ _ _).trans judged) bars]
  exact finishPlain_error head refusal

theorem editedByHost_of_ok (head : s.commandHead = some n) (judged : judgeEdit .loc force h id s = .ok (i, e))
    (free : ¬barred e.attrs = true) :
    completesWith n .ok [] [.dir] s (editedByHost n refusal barred edit force h id s)
      ∧ rewritesEntry i { e with attrs := edit e.attrs } s (editedByHost n refusal barred edit force h id s) := by
  rw [editedByHost, editPairs_of_ok ((judgeEdit_takeCommand _ _ _ _).trans judged) free]
  have written : writePairs .loc i e (edit e.attrs) (takeCommand s)
      = (takeCommand s).setEntry i { e with attrs := edit e.attrs } := rfl
  rw [written]
  exact ⟨finishCommand_of_dir (finishPlain (takeCommand s) (.ok _)) head (keepsBut_setEntry i _)
      (by simp [finishPlain, answerOnly]) (by simp [finishPlain, answerOnly]),
    rewritesEntry_of_dir s (u := takeCommand s) rfl rfl⟩

end Host

/-- Settles O16: the cases of R41 in its order, then the list written. -/
theorem hostAttributeEdits : Obligations.HostAttributeEdits := by
  intro s n c id judged
  refine ⟨fun served => ⟨_, exec_putAttr served, ?_⟩, fun served => ⟨_, exec_dropAttr served, ?_⟩⟩
  · obtain ⟨-, head, -⟩ := served
    simp only [performPutAttr, putAttr_eq_editPairs]
    refine host_judged (editedByHost_of_error head) fun i e ok => ?_
    by_cases full : noPlace id e.attrs = true
    · rw [if_pos ((noPlace_iff _ _).mp full)]
      exact editedByHost_of_barred head ok full
    · rw [if_neg fun all => full ((noPlace_iff _ _).mpr all)]
      obtain ⟨done, written⟩ := editedByHost_of_ok head ok full
      exact ⟨done, _, written, isPut_putPair _ _⟩
  · obtain ⟨-, head, -⟩ := served
    simp only [performDropAttr, dropAttr_eq_editPairs]
    refine host_judged (editedByHost_of_error head) fun i e ok => ?_
    by_cases absent : noPair id e.attrs = true
    · rw [if_pos ((noPair_iff _ _).mp absent)]
      exact editedByHost_of_barred head ok absent
    · rw [if_neg fun all => absent ((noPair_iff _ _).mpr all)]
      obtain ⟨done, written⟩ := editedByHost_of_ok head ok absent
      exact ⟨done, _, written, isDrop_dropPair _ _⟩

/-! ## A node (POST_ATTR, the trunk DROP_ATTR) -/

theorem parsePostAttr_bytes (h : Handle) (id : Byte) (value : Half) :
    parseRequest 0x06 (halfBytes h ++ id :: halfBytes value) = some (.postAttr h id value) := by
  simp [parseRequest, parsePostAttr, halfBytes]

theorem parseDropAttr_bytes (h : Handle) (id : Byte) : parseRequest 0x07 (halfBytes h ++ [id]) = some (.dropAttr h id) := by
  simp [parseRequest, parseDropAttr, halfBytes]

theorem exec_postAttr {c : Fin 6} {m : Byte} {h : Handle} {id : Byte} {value : Half}
    (served : servesRequest c m 0x06 (halfBytes h ++ id :: halfBytes value) s) :
    exec .postAttr s = .next (servePostAttr h id value c (takeRequest s)) :=
  congrArg Host.Outcome.next
    (trunkGrant_of_serves s selectPostAttr _ served (by simp only [parsePostAttr_bytes, selectPostAttr]))

theorem exec_trunkDropAttr {c : Fin 6} {m : Byte} {h : Handle} {id : Byte}
    (served : servesRequest c m 0x07 (halfBytes h ++ [id]) s) :
    exec .trunkDropAttr s = .next (serveDropAttr h id c (takeRequest s)) :=
  congrArg Host.Outcome.next
    (trunkGrant_of_serves s selectDropAttr _ served (by simp only [parseDropAttr_bytes, selectDropAttr]))

/-- The refusals of R41 for a node, in its order, around what an accepted edit does. -/
theorem node_judged {c : Fin 6} {m kind : Byte} {h : Handle} {id : Byte} {content : SlotNo → Entry → Prop}
    (refuses : ∀ code, judgeEdit (.node m) false h id s = .error code → repliesWith c (plainReply kind code) [] s t)
    (does : ∀ i e, judgeEdit (.node m) false h id s = .ok (i, e) → content i e) :
    if id.toNat = 0 ∨ id.toNat = 255 then repliesWith c (plainReply kind .badParam) [] s t
    else
      match s.lookup h with
      | none => repliesWith c (plainReply kind .unknown) [] s t
      | some (i, e) =>
        if e.visibility = .closed then repliesWith c (plainReply kind .unknown) [] s t
        else if e.origin ≠ .trunk m then repliesWith c (plainReply kind .notOwner) [] s t
        else if e.life.isLive = false then repliesWith c (plainReply kind .inactive) [] s t
        else if barsNode m e = true then repliesWith c (plainReply kind .locked) [] s t
        else content i e := by
  by_cases bad : id.toNat = 0 ∨ id.toNat = 255
  · rw [if_pos bad]
    exact refuses _ (judgeEdit_of_bad_id bad)
  rw [if_neg bad]
  cases found : s.lookup h with
  | none => exact refuses _ (judgeEdit_of_unknown bad found)
  | some p =>
    obtain ⟨i, e⟩ := p
    have judged := judgeEdit_node (m := m) bad found
    by_cases closed : e.visibility = .closed
    · simp only [if_pos closed] at judged ⊢
      exact refuses _ judged
    by_cases other : e.origin ≠ .trunk m
    · simp only [if_neg closed, if_pos other] at judged ⊢
      exact refuses _ judged
    by_cases inactive : e.life.isLive = false
    · simp only [if_neg closed, if_neg other, if_pos inactive] at judged ⊢
      exact refuses _ judged
    by_cases locked : barsNode m e = true
    · simp only [if_neg closed, if_neg other, if_neg inactive, if_pos locked] at judged ⊢
      exact refuses _ judged
    · simp only [if_neg closed, if_neg other, if_neg inactive, if_neg locked] at judged ⊢
      exact does i e judged

section Node

variable {c : Fin 6} {m kind : Byte} {refusal : ResultCode} {barred : List Attr → Bool} {edit : List Attr → List Attr}
  {h : Handle} {id : Byte} {i : SlotNo} {e : Entry}

/-- The state after the grant of a node's edit. -/
def editedByNode (c : Fin 6) (m kind : Byte) (refusal : ResultCode) (barred : List Attr → Bool)
    (edit : List Attr → List Attr) (h : Handle) (id : Byte) (s : State) : State :=
  servePlain kind c (takeRequest s) (editPairs refusal barred edit (.node m) false h id (takeRequest s))

theorem editedByNode_of_error (head : s.trunkHead = some c) (code : ResultCode)
    (judged : judgeEdit (.node m) false h id s = .error code) :
    repliesWith c (plainReply kind code) [] s (editedByNode c m kind refusal barred edit h id s) := by
  rw [editedByNode, editPairs_of_error ((judgeEdit_takeRequest _ _ _ _).trans judged)]
  exact buildReply_repliesWith s (plainReply kind code) head []

theorem editedByNode_of_barred (head : s.trunkHead = some c) (judged : judgeEdit (.node m) false h id s = .ok (i, e))
    (bars : barred e.attrs = true) :
    repliesWith c (plainReply kind refusal) [] s (editedByNode c m kind refusal barred edit h id s) := by
  rw [editedByNode, editPairs_of_barred ((judgeEdit_takeRequest _ _ _ _).trans judged) bars]
  exact buildReply_repliesWith s (plainReply kind refusal) head []

theorem editedByNode_of_ok (head : s.trunkHead = some c) (judged : judgeEdit (.node m) false h id s = .ok (i, e))
    (free : ¬barred e.attrs = true) :
    let t := editedByNode c m kind refusal barred edit h id s
    buildsReply c (plainReply kind .ok) s t ∧ keepsBut [.dir, .trunk, .arb, .notify, .doze] s t
      ∧ rewritesEntry i ({ e with attrs := edit e.attrs }.marked .changed) s t
      ∧ marksAndWakes [] .changed e (s.handleOf i) s t := by
  rw [editedByNode, editPairs_of_ok ((judgeEdit_takeRequest _ _ _ _).trans judged) free]
  obtain ⟨written, events, keep⟩ :=
    setEntry_addMark_if (s := takeRequest s) true i .changed { e with attrs := edit e.attrs }
  have wrote : writePairs (.node m) i e (edit e.attrs) (takeRequest s)
      = addMark i .changed ((takeRequest s).setEntry i { e with attrs := edit e.attrs }) := rfl
  rw [wrote]
  obtain ⟨built, kept⟩ := buildReply_of_entry (plainReply kind .ok) head keep
  exact ⟨built, kept, rewritesEntry_congr written rfl rfl, markEvents_iff.mpr (markEvents_congr events rfl rfl rfl rfl)⟩

end Node

/-- Settles O42: the cases of R41 in its order, then the list written and CHANGED offered. -/
theorem nodeAttributeEdits : Obligations.NodeAttributeEdits := by
  intro s c m h id value judged
  refine ⟨fun served => ⟨_, exec_postAttr served, ?_⟩, fun served => ⟨_, exec_trunkDropAttr served, ?_⟩⟩
  · have node := node_of_serves s served
    obtain ⟨-, head, -⟩ := served
    simp only [servePostAttr, node, putAttr_eq_editPairs]
    refine node_judged (editedByNode_of_error head) fun i e ok => ⟨fun bars => ?_, fun free => ?_⟩
    · exact editedByNode_of_barred head ok ((noPlace_iff _ _).mpr bars)
    · obtain ⟨built, kept, written, events⟩ := editedByNode_of_ok head ok fun full => free ((noPlace_iff _ _).mp full)
      exact ⟨built, kept, _, isPut_putPair _ _, written, events⟩
  · have node := node_of_serves s served
    obtain ⟨-, head, -⟩ := served
    simp only [serveDropAttr, node, dropAttr_eq_editPairs]
    refine node_judged (editedByNode_of_error head) fun i e ok => ⟨fun bars => ?_, fun free => ?_⟩
    · exact editedByNode_of_barred head ok ((noPair_iff _ _).mpr bars)
    · obtain ⟨built, kept, written, events⟩ := editedByNode_of_ok head ok fun absent => free ((noPair_iff _ _).mp absent)
      exact ⟨built, kept, _, isDrop_dropPair _ _, written, events⟩

end Sys2Proof.Proofs
end

section
/-! PROOFS. ANSWER (R136). -/

namespace Sys2Proof.Proofs

open Sys2Proof.Machine Sys2Proof.Laws

variable {s t : State} {n : Fin 4} {k : Fin 6} {c : CommandSlot} {allow : Byte}

theorem exec_answer (served : servesCommand n 0x10 s) :
    exec .answer s = .next (finishCommand n (performAnswer (s.commandSlot n) (takeCommand s))) :=
  congrArg Host.Outcome.next (commandGrant_isCode performAnswer served)

/-! ## The items kept -/

/-- An item as its entry stands now, if it passes re-validation (R136, step 3). -/
def refreshed (s : State) (y : Item) : Option Item :=
  (revalidated s y.handle).map fun p => { y with reach := p.2.reach, cls := p.2.cls }

/-- What becomes of the item at place `j` of a list that `g` guarded items stand before. -/
def consentedAt (s : State) (allow : Byte) (g : Nat) (l : List Item) (j : Nat) : Option Item :=
  l[j]?.bind fun y =>
    if (!y.guarded || allow.getLsbD (g + (l.take j).countP (fun z => z.guarded))) = true then refreshed s y else none

theorem consentedAt_zero (g : Nat) (y : Item) (l : List Item) : consentedAt s allow g (y :: l) 0
    = if y.guarded = true ∧ allow.getLsbD g = false then none else refreshed s y := by
  cases guarded : y.guarded <;> cases bit : allow.getLsbD g <;> simp [consentedAt, guarded, bit]

theorem consentedAt_succ (g : Nat) (y : Item) (l : List Item) (j : Nat) :
    consentedAt s allow g (y :: l) (j + 1) = consentedAt s allow (if y.guarded then g + 1 else g) l j := by
  cases guarded : y.guarded <;> simp [consentedAt, guarded, Nat.add_assoc, Nat.add_comm 1]

/-- The items of R136, place by place. -/
theorem answeredItems_eq (g : Nat) (l : List Item) :
    answeredItems s allow g l = (List.range l.length).filterMap (consentedAt s allow g l) := by
  induction l generalizing g with
  | nil => rfl
  | cons y l ih =>
    have later : ((List.range l.length).map Nat.succ).filterMap (consentedAt s allow g (y :: l))
        = answeredItems s allow (if y.guarded then g + 1 else g) l := by
      rw [List.filterMap_map, ih]
      exact filterMap_of_agree fun j => consentedAt_succ g y l j
    rw [List.length_cons, List.range_succ_eq_map, List.filterMap_cons, later, consentedAt_zero, answeredItems]
    by_cases refused : y.guarded = true ∧ allow.getLsbD g = false
    · simp only [if_pos refused]
    · simp only [if_neg refused, refreshed]
      cases revalidated s y.handle <;> rfl

/-- Re-validation, written out. -/
theorem refreshed_eq (s : State) (y : Item) : refreshed s y = match s.lookup y.handle with
    | some (_, e) =>
      if e.life.isLive = true ∧ e.visibility ≠ .closed then some { y with reach := e.reach, cls := e.cls } else none
    | none => none := by
  unfold refreshed
  cases found : s.lookup y.handle with
  | none => rw [revalidated_of_none found]; rfl
  | some p =>
    obtain ⟨i, e⟩ := p
    rw [revalidated_of_some found]
    by_cases valid : e.life.isLive = true ∧ e.visibility ≠ .closed
    · simp only [if_pos valid, Option.map_some]
    · simp only [if_neg valid, Option.map_none]

/-! ## The answer -/

theorem performAnswer_of_out_of_range (s : State) (far : 5 < (c.byte Offset.state).toNat) :
    performAnswer c s = answerOnly s .badParam [(Offset.index, 0x00)] := by
  simp only [performAnswer, trunkNumber_eq_none far]

theorem performAnswer_of_late (named : k.val = (c.byte Offset.state).toNat)
    (late : ¬((s.context k).state = .awaitingHost ∧ (s.context k).ticket = c.byte Offset.ticket)) :
    performAnswer c s = answerOnly s .tooLate [(Offset.index, 0x00)] := by
  simp only [performAnswer, trunkNumber_eq_some named, if_neg late]

theorem performAnswer_of_waiting {next : Nat} {items : List Item} (named : k.val = (c.byte Offset.state).toNat)
    (waiting : (s.context k).state = .awaitingHost ∧ (s.context k).ticket = c.byte Offset.ticket)
    (cursor : (s.context k).nextCursor = some next)
    (kept : answeredItems s (c.byte Offset.allow) 0 (s.context k).results = items) :
    performAnswer c s = answerOnly (buildReply k (seekReply .ok next items) s) .ok
      [(Offset.index, BitVec.ofNat 8 items.length)] := by
  simp only [performAnswer, trunkNumber_eq_some named, if_pos waiting, cursor, kept, Option.getD_some]

theorem indexOutput_offsets (b : Byte) : (([(Offset.index, b)] : List (Fin 48 × Byte)).map (fun p => p.1)).Nodup
    ∧ ∀ p ∈ [(Offset.index, b)], p.1 ≠ Offset.result := by
  simp [Offset.index, Offset.result]

theorem answer_refused (head : s.commandHead = some n) (code : ResultCode) :
    completesWith n code [(Offset.index, 0x00)] [] s
      (finishCommand n (answerOnly (takeCommand s) code [(Offset.index, 0x00)])) :=
  answerOnly_completesWith s code _ head (indexOutput_offsets _).1 (indexOutput_offsets _).2 []

/-- A command that builds a reply, and so changes the trunk unit alone. -/
theorem answer_builds (head : s.commandHead = some n) (r : Reply) (count : Byte) :
    let t := finishCommand n (answerOnly (buildReply k r (takeCommand s)) .ok [(Offset.index, count)])
    completesWith n .ok [(Offset.index, count)] [.trunk] s t
      ∧ t.context k = { s.context k with state := .replyReady, linked := none, deadline := none, reply := some r }
      ∧ t.trunk.ready = s.trunk.ready ++ [k] ∧ t.trunk.received = s.trunk.received
      ∧ ∀ d, d ≠ k → t.context d = s.context d := by
  obtain ⟨once, free⟩ := indexOutput_offsets count
  have grant : keepsBut [.trunk, .arb, .port, .notify] s (takeCommand s) := keepsBut_mono takeCommand_keeps (by simp)
  have context (d : Fin 6) := context_buildReply (takeCommand s) k d r
  refine ⟨finishCommand_completesWith s (answerOnly _ .ok _) head rfl rfl rfl
    (buildReply_keeps s k r _ grant (by simp)) once free, ?_, rfl, rfl, fun d other => ?_⟩
  · exact (context k).trans (if_pos rfl)
  · exact (context d).trans (if_neg other.symm)

/-- Settles O22: the number, then the ticket of a waiting context; the items are those of R136 place by place. -/
theorem answerBuildsTheConsentedReply : Obligations.AnswerBuildsTheConsentedReply := by
  intro s n served c b
  obtain ⟨-, head, -⟩ := id served
  refine ⟨_, exec_answer served, fun far => ?badParam, fun k named => ⟨fun late => ?late, ?waiting⟩⟩
  case badParam =>
    rw [performAnswer_of_out_of_range _ far]
    exact answer_refused head .badParam
  case late =>
    rw [performAnswer_of_late (s := takeCommand s) named (not_and_of_not_or_not late)]
    exact answer_refused head .tooLate
  case waiting =>
    intro waits ticket next cursor allowed items
    have kept : answeredItems (takeCommand s) (c.byte Offset.allow) 0 ((takeCommand s).context k).results = items := by
      rw [answeredItems_eq]
      refine filterMap_of_agree fun j => ?_
      simp only [consentedAt, refreshed_eq, allowed, takeCommand_context, lookup_takeCommand, Nat.zero_add]
      rcases Option.eq_none_or_eq_some (s.context k).results[j]? with past | ⟨y, found⟩
      · simp only [past, Option.bind_none]
      · simp only [found, Option.bind_some] <;> rfl
    rw [performAnswer_of_waiting (s := takeCommand s) named ⟨waits, ticket⟩ cursor kept]
    exact answer_builds head _ _

end Sys2Proof.Proofs
end

section
/-! PROOFS. Codes that name no command, requests of unknown kind or wrong length, and requests read back (7.3, 8.3). -/

namespace Sys2Proof.Proofs

open Sys2Proof.Machine Sys2Proof.Laws

variable {s t : State} {payload : List Byte}

/-! ## Which payloads spell a request (R128) -/

theorem parseHandle_isSome_iff (make : Handle → Request) : (parseHandle make payload).isSome = true ↔ payload.length = 2 := by
  rcases payload with _ | ⟨a, _ | ⟨b, _ | ⟨c, rest⟩⟩⟩ <;> simp [parseHandle]

theorem parsePostAttr_isSome_iff : (parsePostAttr payload).isSome = true ↔ payload.length = 5 := by
  rcases payload with _ | ⟨a, _ | ⟨b, _ | ⟨c, _ | ⟨d, _ | ⟨e, _ | ⟨f, rest⟩⟩⟩⟩⟩⟩ <;> simp [parsePostAttr]

theorem parseDropAttr_isSome_iff : (parseDropAttr payload).isSome = true ↔ payload.length = 3 := by
  rcases payload with _ | ⟨a, _ | ⟨b, _ | ⟨c, _ | ⟨d, rest⟩⟩⟩⟩ <;> simp [parseDropAttr]

theorem parseClaim_isSome_iff : (parseClaim payload).isSome = true ↔ payload.length = 3 := by
  rcases payload with _ | ⟨a, _ | ⟨b, _ | ⟨c, _ | ⟨d, rest⟩⟩⟩⟩ <;> simp [parseClaim]

/-- After the tag, four bytes are left. -/
theorem parseAnnounce_isSome_iff : (parseAnnounce payload).isSome = true
    ↔ payload ≠ [] ∧ payload.length = 5 + (payload.getD 0 0).toNat := by
  cases payload with
  | nil => simp [parseAnnounce]
  | cons t rest =>
    have left : (rest.drop t.toNat).length = rest.length - t.toNat := List.length_drop
    have four : (parseAnnounce (t :: rest)).isSome = true ↔ (rest.drop t.toNat).length = 4 := by
      rw [parseAnnounce]
      rcases rest.drop t.toNat with _ | ⟨a, _ | ⟨b, _ | ⟨c, _ | ⟨d, _ | ⟨e, more⟩⟩⟩⟩⟩ <;> simp
    rw [four, left, List.length_cons, List.getD_cons_zero]
    simp only [ne_eq, reduceCtorEq, not_false_eq_true, true_and]
    omega

/-- After the pattern, two bytes are left. -/
theorem parseSeek_isSome_iff : (parseSeek payload).isSome = true
    ↔ 4 ≤ payload.length ∧ payload.length = 6 + (payload.getD 3 0).toNat := by
  rcases payload with _ | ⟨start, _ | ⟨options, _ | ⟨cls, _ | ⟨p, rest⟩⟩⟩⟩
  · simp [parseSeek]
  · simp [parseSeek]
  · simp [parseSeek]
  · simp [parseSeek]
  · have left : (rest.drop p.toNat).length = rest.length - p.toNat := List.length_drop
    have two : (parseSeek (start :: options :: cls :: p :: rest)).isSome = true ↔ (rest.drop p.toNat).length = 2 := by
      rw [parseSeek]
      rcases rest.drop p.toNat with _ | ⟨a, _ | ⟨b, _ | ⟨c, more⟩⟩⟩ <;> simp
    have third : (start :: options :: cls :: p :: rest).getD 3 0 = p := rfl
    rw [two, left, third]
    simp only [List.length_cons]
    omega

/-- The kinds, each with its length. -/
theorem parseRequest_isSome_iff (kind : Byte) (payload : List Byte) : (parseRequest kind payload).isSome = true ↔
    (kind = 0x01 ∧ payload ≠ [] ∧ payload.length = 5 + (payload.getD 0 0).toNat)
    ∨ (kind ∈ [0x02#8, 0x03#8, 0x05#8, 0x09#8] ∧ payload.length = 2)
    ∨ (kind = 0x04 ∧ 4 ≤ payload.length ∧ payload.length = 6 + (payload.getD 3 0).toNat)
    ∨ (kind = 0x06 ∧ payload.length = 5)
    ∨ (kind ∈ [0x07#8, 0x08#8] ∧ payload.length = 3) := by
  unfold parseRequest
  split
  next announce => subst announce; simp [parseAnnounce_isSome_iff]
  next =>
  split
  next refresh => subst refresh; simp [parseHandle_isSome_iff]
  next =>
  split
  next withdraw => subst withdraw; simp [parseHandle_isSome_iff]
  next =>
  split
  next seek => subst seek; simp [parseSeek_isSome_iff]
  next =>
  split
  next fetch => subst fetch; simp [parseHandle_isSome_iff]
  next =>
  split
  next postAttr => subst postAttr; simp [parsePostAttr_isSome_iff]
  next =>
  split
  next dropAttr => subst dropAttr; simp [parseDropAttr_isSome_iff]
  next =>
  split
  next claim => subst claim; simp [parseClaim_isSome_iff]
  next =>
  split
  next yield => subst yield; simp [parseHandle_isSome_iff]
  next => simp_all

/-! ## BAD_PARAM -/

theorem isUnknownCode_of {code : Byte} (unnamed : code = 0x00 ∨ 0x12 < code.toNat) : isUnknownCode code = true := by
  rcases unnamed with rfl | above
  · rfl
  · simp [isUnknownCode, above]

theorem exec_unknownCommand {n : Fin 4} {code : Byte} (served : servesCommand n code s)
    (unnamed : code = 0x00 ∨ 0x12 < code.toNat) : exec .unknownCommand s
      = .next (finishCommand n (performUnknown (s.commandSlot n) (takeCommand s))) :=
  congrArg Host.Outcome.next (commandGrant_of_serves s isUnknownCode performUnknown served (isUnknownCode_of unnamed))

theorem exec_reject {c : Fin 6} {m kind : Byte} (served : servesRequest c m kind payload s)
    (malformed : parseRequest kind payload = none) : exec .reject s = .next (serveReject c (takeRequest s)) :=
  congrArg Host.Outcome.next
    (trunkGrant_of_serves s selectReject _ served (by simp only [malformed, selectReject]))

/-- Settles O45: neither is taken for anything else, and each length follows from its parser. -/
theorem unnamedCodeAndMalformedRequestAreBadParam : Obligations.UnnamedCodeAndMalformedRequestAreBadParam := by
  refine ⟨fun s n code served unnamed => ⟨_, exec_unknownCommand served unnamed, ?_⟩,
    fun s c m kind payload served malformed => ⟨_, exec_reject served malformed, ?_⟩, parseRequest_isSome_iff⟩
  · obtain ⟨-, head, -⟩ := served
    exact answerOnly_completesWith s .badParam [] head (by simp) (by simp) []
  · obtain ⟨-, head, -, kindIs, -⟩ := served
    have received : ((takeRequest s).context c).kind.getD 0x00 = kind := by
      rw [context_takeRequest, kindIs, Option.getD_some]
    rw [serveReject, received]
    exact buildReply_repliesWith s _ head []

/-! ## Requests read back -/

/-- Settles O46: each parser takes its kind's payload apart where it was put together. -/
theorem writtenRequestIsReadBack : Obligations.WrittenRequestIsReadBack := by
  intro r tagFits patternFits
  cases r with
  | announce tag cls visibility lease =>
    have length := toNat_ofNat_byte (Nat.lt_succ_of_le (tagFits _ _ _ _ rfl))
    simp [parseRequest, Request.kind, Request.payload, parseAnnounce, length, halfBytes]
  | refresh h | withdraw h | fetch h | yield h =>
    simp [parseRequest, Request.kind, Request.payload, parseHandle_halfBytes]
  | seek start options cls pattern mask =>
    have length := toNat_ofNat_byte (Nat.lt_succ_of_le (patternFits _ _ _ _ _ rfl))
    simp [parseRequest, Request.kind, Request.payload, parseSeek, length, halfBytes]
  | postAttr h id value => exact parsePostAttr_bytes h id value
  | dropAttr h id => exact parseDropAttr_bytes h id
  | claim h hold => simp [parseRequest, Request.kind, Request.payload, parseClaim, halfBytes]

end Sys2Proof.Proofs
end

section
/-! PROOFS. The window writes that name a command slot or POWER, and the outputs (8.2, 9.5, 10.2, 10.5). -/

namespace Sys2Proof.Proofs

open Sys2Proof.Machine Sys2Proof.Laws

variable {s t : State}

/-! ## The outputs (R171, R183) -/

/-- Some flag is set with its enable exactly when the two bytes have a bit in common. -/
theorem and_ne_zero_iff (a b : Byte) : a &&& b ≠ 0 ↔ ∃ f : Flag, a.getLsbD f.bit = true ∧ b.getLsbD f.bit = true := by
  have everyBit : ∀ k : Fin 8, ∃ f : Flag, f.bit = k.val := by
    intro k
    match k with
    | 0 => exact ⟨.cmd, rfl⟩
    | 1 => exact ⟨.srch, rfl⟩
    | 2 => exact ⟨.mark, rfl⟩
    | 3 => exact ⟨.fwd, rfl⟩
    | 4 => exact ⟨.trunk, rfl⟩
    | 5 => exact ⟨.wake, rfl⟩
    | 6 => exact ⟨.load, rfl⟩
    | 7 => exact ⟨.slip, rfl⟩
  constructor
  · intro differs
    apply Classical.byContradiction
    intro none_common
    refine differs (BitVec.eq_of_getLsbD_eq fun k hk => ?_)
    obtain ⟨f, bit⟩ := everyBit ⟨k, hk⟩
    have apart : ¬(a.getLsbD k = true ∧ b.getLsbD k = true) := fun both => none_common ⟨f, by rwa [bit]⟩
    have zero : (0 : Byte).getLsbD k = false := by simp
    rw [zero, BitVec.getLsbD_and, ← Bool.not_eq_true, Bool.and_eq_true]
    exact apart
  · rintro ⟨f, inA, inB⟩ same
    have bit : (a &&& b).getLsbD f.bit = true := by rw [BitVec.getLsbD_and, inA, inB, Bool.and_self]
    rw [same] at bit
    simp at bit

theorem irq_iff (s : State) : s.irq = true ↔ s.resetLow = false ∧ s.port.hrstLow = false ∧ s.doze.host = .awake
    ∧ ∃ f, s.flag f = true ∧ s.enabled f = true := by
  have common := and_ne_zero_iff s.notify.flags s.notify.enables
  simp only [State.irq, Bool.and_eq_true, Bool.not_eq_true', decide_eq_true_eq, common, and_assoc]
  exact Iff.rfl

/-- Settles O31: the conditions of each output, one by one. -/
theorem outputsFollowFlagsAndRecord : Obligations.OutputsFollowFlagsAndRecord := by
  refine fun s => ⟨irq_iff s, ?_⟩
  simp only [State.wakePin, Bool.and_eq_true, Bool.not_eq_true', Option.isSome_iff_ne_none, and_assoc]
  exact and_congr_right' (and_congr_right' and_comm)

/-! ## Writes that the port takes, or not (R147) -/

theorem portWrite_of_shut (write : State → State) (settled : s.settled = true)
    (shut : s.loadEnded = false ∨ s.port.hrstLow = true) : portWrite write (settle s) = s := by
  have closed : s.portOpen = false := by rcases shut with loading | low <;> simp [State.portOpen, *]
  rw [settle_of_settled s settled, portWrite, if_neg (by simp [closed])]

/-! ## POWER (R175) -/

theorem resetLow_of_loadEnded (ended : s.loadEnded = true) : s.resetLow = false := by
  simp only [State.loadEnded, decide_eq_true_eq] at ended
  simp [State.resetLow, ended]

theorem keepsBut_storePower (power : HostState) (v : Byte) : keepsBut [.doze] s (storePower power v s) := keepsBut_setDoze _

/-- Settles O30: POWER is stored; a write of DOZE first answers the seeks that wait. -/
theorem powerWritesSetTheHostState : Obligations.PowerWritesSetTheHostState := by
  intro s v settled ended high
  refine ⟨⟨writeDoze v s, congrArg Host.Outcome.next (portWrite_of_open (writeDoze v) settled ended high), ?_⟩,
    ⟨storePower .awake v s, congrArg Host.Outcome.next (portWrite_of_open (storePower .awake v) settled ended high),
      keepsBut_storePower _ _, rfl, ?_⟩⟩
  · obtain ⟨contexts, ready, received⟩ := answerDeferred_spec s
    have doze : (answerDeferred s).doze = s.doze := (keepsBut_answerDeferred s).2 .doze (by decide)
    have trunk : (writeDoze v s).trunk = (answerDeferred s).trunk := by rw [writeDoze, trunk_storePower]
    have power : (writeDoze v s).doze = { s.doze with host := .doze, wakeEnable := v.getLsbD 1 } := by
      rw [writeDoze, storePower, setDoze_doze, doze]
    refine ⟨?_, power, fun c => ?_, by rw [trunk, ready], by rw [trunk, received], ?_⟩
    · rw [writeDoze]
      exact keepsBut_trans (keepsBut_mono (keepsBut_answerDeferred s) (by simp))
        (keepsBut_mono (keepsBut_storePower .doze v) (by simp))
    · rw [← contexts c, State.context, State.context, trunk]
    · simp [State.irq, power]
  · rw [irq_iff]
    exact ⟨fun asserted => asserted.2.2.2, fun flag => ⟨resetLow_of_loadEnded ended, high, rfl, flag⟩⟩

/-! ## Field writes (R148) -/

theorem slotAddress_of_slot {a : Byte} {n : Fin 4} {o : Fin 48} (address : a.toNat = 48 * n.val + o.val) :
    slotAddress a = some (n, o) := by
  have hn := n.isLt
  have ho := o.isLt
  rw [slotAddress, dif_pos (by omega)]
  refine congrArg some (Prod.ext (Fin.ext ?_) (Fin.ext ?_))
  · simp only
    omega
  · simp only
    omega

theorem slotAddress_of_high {a : Byte} (high : 192 ≤ a.toNat) : slotAddress a = none := dif_neg (by omega)

theorem isField_iff (o : Fin 48) : isField o = true ↔ o.val ≠ 1 ∧ o.val ≠ 2 ∧ o.val < 43 := by
  revert o
  decide

theorem keepsBut_setCommandSlot (n : Fin 4) (c : CommandSlot) : keepsBut [.port] s (s.setCommandSlot n c) :=
  keepsBut_setPort _

/-- Settles O28: the address names a slot and an offset; the offset must be a field, the slot EMPTY. -/
theorem fieldWritesAreStoredInAnEmptySlot : Obligations.FieldWritesAreStoredInAnEmptySlot := by
  intro s a v settled ended high
  have row : exec (.windowWrite a v) s = .next (writeByte a v s) :=
    congrArg Host.Outcome.next (portWrite_of_open (writeByte a v) settled ended high)
  refine ⟨fun far => ?_, fun n o address => ⟨_, row, ?_⟩⟩
  · rw [row, writeByte, slotAddress_of_high far]
  · rw [writeByte, slotAddress_of_slot address]
    simp only [isField_iff]
    by_cases stored : (s.commandSlot n).state = .empty ∧ o.val ≠ 1 ∧ o.val ≠ 2 ∧ o.val < 43
    · have field : (o.val ≠ 1 ∧ o.val ≠ 2 ∧ o.val < 43) ∧ (s.commandSlot n).state = .empty := stored.symm
      rw [if_pos stored, if_pos field]
      refine ⟨keepsBut_setCommandSlot _ _, rfl, ⟨rfl, rfl⟩, fun m other => ?_, ?_, ?_, fun p other => ?_⟩
      · rw [commandSlot_setCommandSlot, if_neg other.symm]
      · rw [commandSlot_setCommandSlot_self, state_setByte, stored.1]
      · rw [commandSlot_setCommandSlot_self, byte_setByte_self]
      · rw [commandSlot_setCommandSlot_self, byte_setByte, if_neg other.symm]
    · rw [if_neg stored, if_neg fun field => stored field.symm]

/-! ## Control writes (R149, R152, R153) -/

/-- Settles O33: with the port shut no write acts; else each control write acts in one state of its slot. -/
theorem controlWritesActByTheSlotState : Obligations.ControlWritesActByTheSlotState := by
  refine ⟨fun s n a v settled shut i mem => ?_, fun s n settled ended high => ?_⟩
  · have ignored (write : State → State) :
        (.next (portWrite write (settle s)) : Host.Outcome State Fault Refusal) = .next s :=
      congrArg Host.Outcome.next (portWrite_of_shut write settled shut)
    simp only [List.mem_cons, List.not_mem_nil, or_false] at mem
    rcases mem with rfl | rfl | rfl | rfl | rfl | rfl | rfl | rfl | rfl <;> exact ignored _
  · intro c others
    have taken (write : State → State) :
        (.next (portWrite write (settle s)) : Host.Outcome State Fault Refusal) = .next (write s) :=
      congrArg Host.Outcome.next (portWrite_of_open write settled ended high)
    refine ⟨⟨_, taken (postSlot n), ?_⟩, ⟨_, taken (releaseSlot n), ?_⟩, ⟨_, taken (abortSlot n), ?_⟩, fun v h1 h2 h3 => ?_⟩
    · by_cases empty : (s.commandSlot n).state = .empty
      · rw [if_pos empty, postSlot, if_pos empty]
        refine ⟨keepsBut_setPort _, ⟨fun m other => ?_, rfl, rfl⟩, ?_, rfl⟩
        · rw [commandSlot_setPort, vector_get_set, if_neg other.symm]
          rfl
        · rw [commandSlot_setPort, vector_get_set, if_pos rfl]
      · rw [if_neg empty, postSlot, if_neg empty]
    · by_cases done : (s.commandSlot n).state = .done
      · rw [if_pos done, releaseSlot, if_pos done]
        refine ⟨keepsBut_setCommandSlot _ _, ⟨fun m other => ?_, rfl, rfl⟩, ?_, fun o => ?_, rfl⟩
        · rw [commandSlot_setCommandSlot, if_neg other.symm]
        · rw [commandSlot_setCommandSlot_self, CommandSlot.cleared]
        · rw [commandSlot_setCommandSlot_self]
          exact Vector.getElem_replicate _
      · rw [if_neg done, releaseSlot, if_neg done]
    · by_cases posted : (s.commandSlot n).state = .posted
      · rw [if_pos posted, abortSlot, if_pos posted]
        refine ⟨?_, ⟨fun m other => ?_, rfl, rfl⟩, ?_, ?_, ?_, fun o other => ?_, rfl⟩
        · exact keepsBut_trans (keepsBut_mono (keepsBut_setPort _) (by simp)) (keepsBut_mono (keepsBut_setFlag _) (by simp))
        · rw [setFlag_commandSlot, commandSlot_setPort, vector_get_set, if_neg other.symm]
          rfl
        · exact setsFlags_congr_states (setFlag_setsFlags (s.setPort _) .cmd) rfl rfl
        · rw [setFlag_commandSlot, commandSlot_setPort, vector_get_set, if_pos rfl]
        · rw [setFlag_commandSlot, commandSlot_setPort, vector_get_set, if_pos rfl]
          exact byte_setByte_self _ _ _
        · rw [setFlag_commandSlot, commandSlot_setPort, vector_get_set, if_pos rfl]
          exact (byte_setByte _ _ _ _).trans (if_neg other.symm)
      · rw [if_neg posted, abortSlot, if_neg posted]
    · have address : (BitVec.ofNat 8 (48 * n.val + 1)).toNat = 48 * n.val + (1 : Fin 48).val := by
        revert n
        decide
      refine (taken (writeByte _ v)).trans (congrArg _ ?_)
      rw [writeByte, slotAddress_of_slot address]
      exact if_neg (by simp [isField_iff])

end Sys2Proof.Proofs
end

section
/-! PROOFS. The host port bit by bit: a transaction, the bytes it gathers, the writes it spells (8.1). -/

namespace Sys2Proof.Proofs

open Sys2Proof.Machine Sys2Proof.Laws

variable {s : State} {t : Transaction} {v : Byte} {b : Bool}

/-! ## Bits and bytes -/

/-- Eight bits make one byte. -/
theorem exists_byte_of_eight {bits : List Bool} (eight : bits.length = 8) :
    ∃ v, ∀ rest, bytesOf (bits ++ rest) = v :: bytesOf rest := by
  match bits, eight with
  | [b7, b6, b5, b4, b3, b2, b1, b0], _ => exact ⟨_, fun rest => rfl⟩

theorem bytesOf_flatMap_bitsOf (bytes : List Byte) (rest : List Bool) :
    bytesOf (bytes.flatMap bitsOf ++ rest) = bytes ++ bytesOf rest := by
  induction bytes with
  | nil => rfl
  | cons b bytes ih => rw [List.flatMap_cons, List.append_assoc, bytesOf_bitsOf, ih, List.cons_append]

/-! ## The commands of a WRITE (R144) -/

theorem opcodeOf_write : opcodeOf 0x02 = .write := rfl

theorem opcodeOf_eq_write_iff (opcode : Byte) : opcodeOf opcode = .write ↔ opcode = 0x02 := by
  unfold opcodeOf
  split
  next read => subst read; decide
  next =>
    split
    next write => simp [write]
    next other => exact iff_of_false nofun other

theorem transactionCommands_of_write (address : Byte) (data : List Byte) :
    transactionCommands (0x02 :: address :: data) = writeCommands address data := rfl

theorem transactionCommands_of_other {opcode : Byte} (other : opcode ≠ 0x02) (rest : List Byte) :
    transactionCommands (opcode :: rest) = [] := by
  cases rest with
  | nil => rfl
  | cons address data =>
    have notWrite := mt (opcodeOf_eq_write_iff opcode).mp other
    cases kind : opcodeOf opcode with
    | write => exact absurd kind notWrite
    | read | void => simp only [transactionCommands, kind]

theorem transactionCommands_of_short (opcode : Byte) : transactionCommands [opcode] = [] := rfl

theorem length_writeCommands (address : Byte) (data : List Byte) : (writeCommands address data).length = data.length := by
  induction data generalizing address with
  | nil => rfl
  | cons v rest ih => rw [writeCommands, List.length_cons, ih, List.length_cons]

/-- The data bytes go to rising addresses. -/
theorem getElem?_writeCommands (address : Byte) {data : List Byte} {k : Nat} (within : k < data.length) :
    (writeCommands address data)[k]? = some (writeCommand (address + BitVec.ofNat 8 k) data[k]) := by
  induction data generalizing address k with
  | nil => simp at within
  | cons v rest ih =>
    cases k with
    | zero =>
      have same : address + BitVec.ofNat 8 0 = address := BitVec.add_zero address
      simp [writeCommands, same]
    | succ k =>
      have next : address + 1 + BitVec.ofNat 8 k = address + BitVec.ofNat 8 (k + 1) := by
        have one : (1 : Byte).toNat = 1 := rfl
        apply BitVec.eq_of_toNat_eq
        simp only [BitVec.toNat_add, BitVec.toNat_ofNat, one]
        omega
      rw [writeCommands, List.getElem?_cons_succ, ih (address + 1) (Nat.lt_of_succ_lt_succ within), next,
        List.getElem_cons_succ]

/-! ## The command that one write is -/

/-- The four registers whose writes are rows of their own. -/
def ownRegisters : List Byte := [0xC1, 0xC2, 0xC3, 0xC4]

theorem writeCommand_of_other {a : Byte} (other : a ∉ ownRegisters) (v : Byte) : writeCommand a v
    = match slotAddress a with
      | some (n, o) =>
        if o = Offset.control then
          if v = 0x01 then .post n else if v = 0x02 then .release n else if v = 0x03 then .abort n else .windowWrite a v
        else .windowWrite a v
      | none => .windowWrite a v := by
  simp only [ownRegisters, List.mem_cons, List.not_mem_nil, or_false, not_or] at other
  obtain ⟨flags, enables, cause, power⟩ := other
  exact (if_neg flags).trans ((if_neg enables).trans ((if_neg cause).trans (if_neg power)))

/-- The address of a CONTROL byte. -/
theorem control_address : ∀ n : Fin 4, (BitVec.ofNat 8 (48 * n.val + 1)).toNat = 48 * n.val + (1 : Fin 48).val
    ∧ BitVec.ofNat 8 (48 * n.val + 1) ∉ ownRegisters := by decide

theorem writeCommand_control (n : Fin 4) (v : Byte) : writeCommand (BitVec.ofNat 8 (48 * n.val + 1)) v
    = if v = 0x01 then .post n else if v = 0x02 then .release n else if v = 0x03 then .abort n
      else .windowWrite (BitVec.ofNat 8 (48 * n.val + 1)) v := by
  obtain ⟨address, other⟩ := control_address n
  rw [writeCommand_of_other other, slotAddress_of_slot address]
  exact if_pos rfl

theorem toNat_of_slotAddress {a : Byte} {n : Fin 4} {o : Fin 48} (named : slotAddress a = some (n, o)) :
    a.toNat = 48 * n.val + o.val := by
  unfold slotAddress at named
  split at named
  · cases named
    simp only
    omega
  · cases named

theorem writeCommand_window {a : Byte} (v : Byte) (noControl : ∀ n : Fin 4, a.toNat ≠ 48 * n.val + 1)
    (other : a ∉ ownRegisters) : writeCommand a v = .windowWrite a v := by
  rw [writeCommand_of_other other]
  cases named : slotAddress a with
  | none => rfl
  | some p =>
    obtain ⟨n, o⟩ := p
    have address := toNat_of_slotAddress named
    exact if_neg fun control => noControl n (by rw [address, control]; rfl)

/-- The writes that have rows of their own: to a CONTROL byte with one of three values, or to one of four registers. -/
theorem dedicatedWrite_iff (a v : Byte) : dedicatedWrite a v = true
    ↔ ((∃ n : Fin 4, a.toNat = 48 * n.val + 1) ∧ (v = 0x01 ∨ v = 0x02 ∨ v = 0x03)) ∨ a ∈ ownRegisters := by
  have controls : (a = 0x01 ∨ a = 0x31 ∨ a = 0x61 ∨ a = 0x91) ↔ ∃ n : Fin 4, a.toNat = 48 * n.val + 1 := by
    revert a
    decide +kernel
  rw [← controls]
  simp [dedicatedWrite, controlAddress, ownRegisters, or_assoc]

/-- A write never spells a row that its operands do not fit. -/
theorem wellFormed_writeCommand (a v : Byte) : (writeCommand a v).wellFormed = true := by
  by_cases own : a ∈ ownRegisters
  · simp only [ownRegisters, List.mem_cons, List.not_mem_nil, or_false] at own
    rcases own with rfl | rfl | rfl | rfl
    · rfl
    · rfl
    · rfl
    · change (if v.getLsbD 0 then Instr.powerAwake v else .powerDoze v).wellFormed = true
      split
      next awake => exact awake
      next doze => exact (Bool.not_eq_true' _).mpr (Bool.eq_false_iff.mpr doze)
  by_cases control : ∃ n : Fin 4, a.toNat = 48 * n.val + 1
  · obtain ⟨n, address⟩ := control
    have named : slotAddress a = some (n, 1) := slotAddress_of_slot address
    rw [writeCommand_of_other own, named]
    change (if v = 0x01 then Instr.post n else if v = 0x02 then .release n else if v = 0x03 then .abort n
      else .windowWrite a v).wellFormed = true
    split
    · rfl
    next post =>
      split
      · rfl
      next release =>
        split
        · rfl
        next abort =>
          have free : ¬dedicatedWrite a v = true := by
            rw [dedicatedWrite_iff]
            rintro (⟨-, one | two | three⟩ | mem)
            · exact post one
            · exact release two
            · exact abort three
            · exact own mem
          simp [Instr.wellFormed, free]
  · have noControl : ∀ n : Fin 4, a.toNat ≠ 48 * n.val + 1 := fun n address => control ⟨n, address⟩
    have free : ¬dedicatedWrite a v = true := by
      rw [dedicatedWrite_iff]
      rintro (⟨is, -⟩ | mem)
      · exact control is
      · exact own mem
    rw [writeCommand_window v noControl own]
    simp [Instr.wellFormed, free]

/-! ## The edges on a transaction in progress -/

/-- Commands that join the tail of the queue. -/
def queued (more : List Instr) (s : State) : State := { s with pending := s.pending ++ more }

theorem queued_nil (s : State) : queued [] s = s := by simp [queued]

theorem queued_append (more later : List Instr) (s : State) : queued later (queued more s) = queued (more ++ later) s := by
  simp [queued]

/-- The commands that the bytes still to come spell, after what the transaction has taken. -/
def spells (t : Transaction) (bytes : List Byte) : List Instr :=
  match t.opcode, t.address with
  | none, _ => transactionCommands bytes
  | some opcode, none => transactionCommands (opcode :: bytes)
  | some opcode, some a => transactionCommands (opcode :: a :: bytes)

/-- The transaction once a byte is complete. -/
def took (t : Transaction) (v : Byte) : Transaction :=
  match t.opcode, t.address with
  | none, _ => { t with opcode := some v, gathered := [] }
  | some _, none => { t with address := some v, gathered := [] }
  | some _, some a => { t with address := some (a + 1), gathered := [] }

theorem gathered_took (t : Transaction) (v : Byte) : (took t v).gathered = [] := by
  unfold took
  split <;> rfl

theorem opcode_took_ne_none (t : Transaction) (v : Byte) : (took t v).opcode ≠ none := by
  unfold took
  split <;> simp_all

theorem transactionCommands_of_data (opcode a v : Byte) (bytes : List Byte) : transactionCommands (opcode :: a :: v :: bytes)
    = transactionCommands [opcode, a, v] ++ transactionCommands (opcode :: (a + 1) :: bytes) := by
  by_cases write : opcode = 0x02
  · subst write
    rfl
  · simp only [transactionCommands_of_other write, List.append_nil]

theorem spells_nil (t : Transaction) : spells t [] = [] := by
  unfold spells
  split
  · rfl
  · rfl
  next opcode a _ _ =>
    by_cases write : opcode = 0x02
    · subst write
      rfl
    · exact transactionCommands_of_other write _

theorem transactionCommands_of_two (opcode a : Byte) : transactionCommands [opcode, a] = [] :=
  spells_nil { Transaction.begun with opcode := some opcode, address := some a }

/-- A transaction in progress: less than a byte is gathered, and the address comes after the opcode. -/
structure InProgress (t : Transaction) : Prop where
  partialByte : t.gathered.length < 8
  opcodeFirst : t.opcode = none → t.address = none

theorem inProgress_begun : InProgress Transaction.begun := ⟨by decide, fun _ => rfl⟩

theorem inProgress_took (t : Transaction) (v : Byte) : InProgress (took t v) :=
  ⟨by rw [gathered_took]; decide, fun none => absurd none (opcode_took_ne_none t v)⟩

/-- What a byte spells, then what the bytes after it do. -/
theorem spells_cons (running : InProgress t) (v : Byte) (bytes : List Byte) :
    spells t (v :: bytes) = spells t [v] ++ spells (took t v) bytes := by
  cases opcode : t.opcode with
  | none =>
    simp only [spells, took, opcode, running.opcodeFirst opcode, transactionCommands_of_short, List.nil_append]
  | some op =>
    cases address : t.address with
    | none => simp only [spells, took, opcode, address, transactionCommands_of_two, List.nil_append]
    | some a =>
      simp only [spells, took, opcode, address]
      exact transactionCommands_of_data op a v bytes

/-! ## One period of HSCK -/

/-- A bit that completes no byte is gathered. -/
theorem hsckRise_of_partial (few : (t.gathered ++ [b]).length < 8) :
    hsckRise b (s.setTransaction (some t)) = s.setTransaction (some { t with gathered := t.gathered ++ [b] }) := by
  simp only [hsckRise, setTransaction_port, bytesOf_of_short _ few, setTransaction_setTransaction]

/-- A byte is taken: its commands join the queue. -/
theorem takeByte_eq (running : InProgress t) (v : Byte) :
    takeByte v t (s.setTransaction (some t)) = (queued (spells t [v]) s).setTransaction (some (took t v)) := by
  cases opcode : t.opcode with
  | none =>
    simp only [takeByte, spells, took, opcode, running.opcodeFirst opcode, transactionCommands_of_short, queued_nil,
      setTransaction_setTransaction]
  | some op =>
    cases address : t.address with
    | none =>
      simp only [takeByte, spells, took, opcode, address, transactionCommands_of_two, queued_nil,
        setTransaction_setTransaction]
    | some a =>
      by_cases write : op = 0x02
      · subst write
        simp only [takeByte, spells, took, opcode, address, opcodeOf_write, setTransaction_setTransaction]
        rfl
      · have notWrite := mt (opcodeOf_eq_write_iff op).mp write
        simp only [takeByte, spells, took, opcode, address, transactionCommands_of_other write, queued_nil,
          setTransaction_setTransaction]
        split
        next is => exact absurd is notWrite
        · rfl
        · rfl

/-- A bit that completes a byte. -/
theorem hsckRise_of_last (running : InProgress t) {rest : List Byte} (whole : bytesOf (t.gathered ++ [b]) = v :: rest) :
    hsckRise b (s.setTransaction (some t)) = (queued (spells t [v]) s).setTransaction (some (took t v)) := by
  simp only [hsckRise, setTransaction_port, whole]
  exact takeByte_eq running v

/-- Within a byte the next bit is shifted out. -/
theorem hsckFall_of_partial (bits : t.gathered ≠ []) :
    hsckFall (s.setTransaction (some t)) = s.setTransaction (some { t with shifting := t.shifting.drop 1 }) := by
  simp only [hsckFall, setTransaction_port, bits, false_and, if_false, setTransaction_setTransaction]

theorem group_setTransaction (x : Option Transaction) (a : Byte) : (s.setTransaction x).group a = s.group a := rfl

/-- What is captured does not depend on the transaction that the state shows. -/
theorem capture_setTransaction (x : Option Transaction) : Transaction.capture t (s.setTransaction x) = t.capture s := by
  simp only [Transaction.capture, captureAt, settle_setTransaction, group_setTransaction, windowByte_setTransaction]

/-- A transaction that has captured the byte it shifts out next. -/
def captured (s : State) (t : Transaction) : Transaction :=
  { t with held := (t.capture s).2, shifting := bitsOf (t.capture s).1 }

/-- After a whole byte the next one is captured. -/
theorem hsckFall_of_whole (whole : t.gathered = []) (taken : t.opcode ≠ none) :
    hsckFall (s.setTransaction (some t)) = s.setTransaction (some (captured s t)) := by
  simp only [hsckFall, setTransaction_port, whole, ne_eq, taken, not_false_eq_true, and_self, if_true,
    setTransaction_setTransaction, capture_setTransaction, captured]

theorem spells_congr {x : Transaction} (opcode : x.opcode = t.opcode) (address : x.address = t.address)
    (bytes : List Byte) : spells x bytes = spells t bytes := by simp only [spells, opcode, address]

/-- One period: the transaction goes on, and what it spells is split between the queue and the bytes still to come. -/
theorem hsck_period (running : InProgress t) (b : Bool) (s : State) : ∃ x more,
    hsckFall (hsckRise b (s.setTransaction (some t))) = (queued more s).setTransaction (some x) ∧ InProgress x
      ∧ ∀ rest, spells t (bytesOf (t.gathered ++ b :: rest)) = more ++ spells x (bytesOf (x.gathered ++ rest)) := by
  have split (rest : List Bool) : t.gathered ++ b :: rest = (t.gathered ++ [b]) ++ rest := by simp
  by_cases few : (t.gathered ++ [b]).length < 8
  · rw [hsckRise_of_partial few, hsckFall_of_partial (by simp)]
    refine ⟨{ t with gathered := t.gathered ++ [b], shifting := t.shifting.drop 1 }, [], by rw [queued_nil],
      ⟨few, running.opcodeFirst⟩, fun rest => ?_⟩
    rw [split, List.nil_append]
    exact (spells_congr rfl rfl _).symm
  · have gathered := running.partialByte
    have length : (t.gathered ++ [b]).length = t.gathered.length + 1 := List.length_append
    obtain ⟨v, whole⟩ := exists_byte_of_eight (bits := t.gathered ++ [b]) (by omega)
    have alone := whole []
    rw [List.append_nil] at alone
    rw [hsckRise_of_last running alone, hsckFall_of_whole (gathered_took t v) (opcode_took_ne_none t v)]
    have took_on := inProgress_took t v
    refine ⟨_, _, rfl, ⟨took_on.partialByte, took_on.opcodeFirst⟩, fun rest => ?_⟩
    have none_left : (captured (queued (spells t [v]) s) (took t v)).gathered = [] := gathered_took t v
    rw [split, whole, spells_cons running, none_left, List.nil_append]
    exact congrArg _ (spells_congr rfl rfl _).symm

/-! ## A whole transaction -/

theorem clocked_cons (b : Bool) (bits : List Bool) (s : State) :
    clocked (b :: bits) s = clocked bits (hsckFall (hsckRise b s)) := rfl

/-- The commands of a transaction join the queue, in order, byte by byte. -/
theorem hselRise_clocked (running : InProgress t) (bits : List Bool) (s : State) :
    hselRise (clocked bits (s.setTransaction (some t)))
      = (queued (spells t (bytesOf (t.gathered ++ bits))) s).setTransaction none := by
  induction bits generalizing t s with
  | nil =>
    rw [List.append_nil, bytesOf_of_short _ running.partialByte, spells_nil, queued_nil]
    rfl
  | cons b rest ih =>
    obtain ⟨x, more, period, goesOn, spelled⟩ := hsck_period running b s
    rw [clocked_cons, period, ih goesOn, spelled, queued_append]

theorem setTransaction_self {x : Option Transaction} (same : s.port.transaction = x) : s.setTransaction x = s := by
  subst same
  rfl

/-- Settles O32: bytes from bits, commands from bytes, and the queue after the last bit. -/
theorem writeTransactionsSpellWindowWrites : Obligations.WriteTransactionsSpellWindowWrites := by
  refine ⟨fun bytes partialByte few => ?_, fun address data => ⟨length_writeCommands address data,
    fun k within => getElem?_writeCommands address within⟩, fun opcode rest other => ?_, rfl, wellFormed_writeCommand,
    fun v => ⟨rfl, rfl, rfl, rfl⟩, writeCommand_control, fun a v noControl other => writeCommand_window v noControl other,
    fun s bits => ⟨fun resetHigh high idle => ?_, fun low => ?_⟩⟩
  · rw [transactionOf, bytesOf_flatMap_bitsOf, bytesOf_of_short _ few, List.append_nil]
  · rcases other with other | rfl
    · exact transactionCommands_of_other other rest
    · exact transactionCommands_of_short opcode
  · have listens : s.portListens = true := by simp [State.portListens, resetHigh, high]
    rw [hselFall_of_listens s listens idle, hselRise_clocked inProgress_begun]
    exact setTransaction_self (s := queued (transactionOf bits) s) idle
  · refine hselFall_of_not_listens s ?_
    rcases low with low | low <;> simp [State.portListens, low]

end Sys2Proof.Proofs
end

section
/-! PROOFS. The register window: what each address reads, the state counts, and what a READ shifts out (1.14, 8.1, 12.3,
12.4). -/

namespace Sys2Proof.Proofs

open Sys2Proof.Machine Sys2Proof.Laws

variable {s : State} {t : Transaction} {v a : Byte} {b : Bool}

/-! ## The registers -/

theorem windowByte_register (settled : s.settled = true) {a : Byte} (register : slotAddress a = none) :
    s.windowByte a = s.highByte a.toNat := by
  rw [windowByte_of_high s a register, settle_of_settled s settled]

theorem windowByte_slot (settled : s.settled = true) {a : Byte} {n : Fin 4} {o : Fin 48}
    (address : a.toNat = 48 * n.val + o.val) : s.windowByte a = (s.commandSlot n).shown o := by
  simp only [State.windowByte, settle_of_settled s settled, slotAddress_of_slot address]

theorem shown_eq (c : CommandSlot) (o : Fin 48) : c.shown o
    = if o.val = 1 then c.state.toByte else if 43 ≤ o.val then 0x00 else c.byte o :=
  ite_of_iff Fin.ext_iff _ _

/-- A byte of two flags: PORT STATUS, POWER (12.1, 12.4). -/
theorem twoFlags_bits (a b : Bool) : (BitVec.ofNat 8 (a.toNat + 2 * b.toNat)).getLsbD 0 = a
    ∧ (BitVec.ofNat 8 (a.toNat + 2 * b.toNat)).getLsbD 1 = b
    ∧ ∀ k, 2 ≤ k → (BitVec.ofNat 8 (a.toNat + 2 * b.toNat)).getLsbD k = false := by
  refine ⟨by revert a b; decide, by revert a b; decide, fun k far => ?_⟩
  by_cases high : 8 ≤ k
  · exact BitVec.getLsbD_of_ge _ _ high
  · have low : ∀ k : Fin 8, 2 ≤ k.val → (BitVec.ofNat 8 (a.toNat + 2 * b.toNat)).getLsbD k.val = false := by
      revert a b
      decide
    exact low ⟨k, by omega⟩ far

theorem marksPending_iff (s : State) : s.marksPending = true ↔ ∃ i e, s.entryOf i = some e ∧ e.marks ≠ Marks.none_ := by
  simp only [State.marksPending, List.any_eq_true]
  constructor
  · rintro ⟨i, -, marked⟩
    split at marked
    next e held => exact ⟨i, e, held, of_decide_eq_true marked⟩
    · cases marked
  · rintro ⟨i, e, held, marked⟩
    refine ⟨i, List.mem_finRange i, ?_⟩
    rw [held]
    exact decide_eq_true marked

/-- Unused addresses read 00h (R198). -/
theorem highByte_of_unused {n : Nat} (unused : (0xC9 ≤ n ∧ n ≤ 0xCF) ∨ (0xDD ≤ n ∧ n ≤ 0xDF) ∨ 0xEC ≤ n) :
    s.highByte n = 0x00 := by
  rw [State.highByte, if_neg (by omega), if_neg (by omega), if_neg (by omega), if_neg (by omega), if_neg (by omega),
    if_neg (by omega), if_neg (by omega), if_neg (by omega), if_neg (by omega), if_neg (by omega), if_neg (by omega),
    if_neg (by omega)]

/-- The bytes of a group are those that single reads return. -/
theorem window_group (settled : s.settled = true) {first : Byte} {group bytes : List Byte}
    (captured : (settle s).group first = some group) (held : s.group first = some bytes) : group = bytes := by
  rw [settle_of_settled s settled, held] at captured
  exact (Option.some.inj captured).symm

/-! ## The state counts (R23) -/

/-- Four properties of which each item has one. -/
theorem countP_of_one {α : Type} (p q r w : α → Bool)
    (one : ∀ x, (p x).toNat + (q x).toNat + (r x).toNat + (w x).toNat = 1) (l : List α) :
    l.countP p + l.countP q + l.countP r + l.countP w = l.length := by
  have unit (b : Bool) : (if b = true then 1 else 0) = b.toNat := by cases b <;> rfl
  induction l with
  | nil => rfl
  | cons x rest ih =>
    have head := one x
    simp only [List.countP_cons, List.length_cons, unit]
    omega

/-- Each slot counts once. -/
theorem counts_add_up (s : State) : s.freeCount + s.liveCount + s.staleCount + s.spentCount = 256 := by
  rw [State.freeCount, State.liveCount, State.staleCount, State.spentCount, State.lifeCount, State.lifeCount,
    State.lifeCount]
  refine (countP_of_one _ _ _ _ (fun i => ?_) allSlots).trans List.length_finRange
  cases s.entryOf i with
  | none => rfl
  | some e =>
    simp only
    cases e.life <;> rfl

/-- The free list is as long as there are FREE slots. -/
theorem freeCount_eq (free : freeListInv s) : s.freeCount = s.dir.free.length := by
  obtain ⟨once, member⟩ := free
  have all : allSlots.Nodup := List.nodup_finRange 256
  have same : (allSlots.filter (fun i => (s.entryOf i).isNone)).Perm s.dir.free := by
    rw [List.perm_ext_iff_of_nodup (all.filter _) once]
    intro i
    rw [List.mem_filter, member i, Option.isNone_iff_eq_none]
    exact and_iff_right (List.mem_finRange i)
  rw [State.freeCount, List.countP_eq_length_filter, same.length_eq]

/-! ## What a READ captures (R145) -/

/-- The addresses of a group after its first. -/
def groupTail (a : Byte) : List Byte :=
  if a = 0xD0 then [0xD1, 0xD2, 0xD3, 0xD4, 0xD5, 0xD6, 0xD7]
  else if a = 0xD8 then [0xD9, 0xDA, 0xDB, 0xDC]
  else if a = 0xE0 then [0xE1, 0xE2, 0xE3, 0xE4, 0xE5, 0xE6, 0xE7, 0xE8, 0xE9, 0xEA, 0xEB]
  else []

/-- With nothing held, a byte is captured, and with the first of a group the rest of it. -/
theorem captureAt_nil (a : Byte) (s : State) : captureAt a [] s = (s.windowByte a, (groupTail a).map s.windowByte) := by
  unfold captureAt groupTail
  by_cases counts : a = 0xD0
  · subst counts
    rw [group_counts]
    rfl
  by_cases record : a = 0xD8
  · subst record
    rw [group_record]
    rfl
  by_cases params : a = 0xE0
  · subst params
    rw [group_params]
    rfl
  · have single : (settle s).group a = none := by
      rw [State.group, if_neg counts, if_neg record, if_neg params]
    rw [single, if_neg counts, if_neg record, if_neg params]
    rfl

/-- The bytes at the addresses from one on. -/
def bytesFrom (s : State) (a : Byte) (n : Nat) : List Byte := (List.range n).map fun k => s.windowByte (a + BitVec.ofNat 8 k)

theorem address_succ (a : Byte) (k : Nat) : a + 1 + BitVec.ofNat 8 k = a + BitVec.ofNat 8 (k + 1) := by
  have one : (1 : Byte).toNat = 1 := rfl
  apply BitVec.eq_of_toNat_eq
  simp only [BitVec.toNat_add, BitVec.toNat_ofNat, one]
  omega

theorem address_zero (a : Byte) : a + BitVec.ofNat 8 0 = a := BitVec.add_zero a

theorem bytesFrom_succ (s : State) (a : Byte) (n : Nat) :
    bytesFrom s a (n + 1) = s.windowByte a :: bytesFrom s (a + 1) n := by
  simp only [bytesFrom, List.range_succ_eq_map, List.map_cons, List.map_map, address_zero]
  refine congrArg _ (List.map_congr_left fun k _ => ?_)
  rw [address_succ]
  rfl

/-- The rest of a group lies at the addresses that follow. -/
theorem groupTail_eq (s : State) (a : Byte) : ∃ n, (groupTail a).map s.windowByte = bytesFrom s (a + 1) n := by
  unfold groupTail
  by_cases counts : a = 0xD0
  · subst counts
    exact ⟨7, rfl⟩
  by_cases record : a = 0xD8
  · subst record
    exact ⟨4, rfl⟩
  by_cases params : a = 0xE0
  · subst params
    exact ⟨11, rfl⟩
  · rw [if_neg counts, if_neg record, if_neg params]
    exact ⟨0, rfl⟩

/-- Whether the byte at an address comes from a capture or is captured now, it is that byte; so are those kept. -/
theorem captureAt_bytesFrom (s : State) (a : Byte) (n : Nat) :
    ∃ m, captureAt a (bytesFrom s a n) s = (s.windowByte a, bytesFrom s (a + 1) m) := by
  cases n with
  | zero =>
    obtain ⟨m, rest⟩ := groupTail_eq s a
    exact ⟨m, (captureAt_nil a s).trans (by rw [rest])⟩
  | succ n =>
    rw [bytesFrom_succ]
    exact ⟨n, rfl⟩

/-! ## What HSDO shows -/

theorem shiftedOut_cons (b : Bool) (rest : List Bool) (s : State) :
    shiftedOut (b :: rest) s = s.hsdo :: shiftedOut rest (hsckFall (hsckRise b s)) := rfl

theorem hsdo_setTransaction (s : State) (t : Transaction) : (s.setTransaction (some t)).hsdo = some (t.shifting.headD false) :=
  rfl

/-- While no byte is complete, the bits shifted out are those that were captured. -/
theorem shiftedOut_partial (bits rest : List Bool) (few : (t.gathered ++ bits).length < 8)
    (enough : bits.length ≤ t.shifting.length) :
    shiftedOut (bits ++ rest) (s.setTransaction (some t)) = (t.shifting.take bits.length).map some
      ++ shiftedOut rest (s.setTransaction
          (some { t with gathered := t.gathered ++ bits, shifting := t.shifting.drop bits.length })) := by
  induction bits generalizing t with
  | nil => simp
  | cons b bits ih =>
    obtain ⟨x, shifting, shown⟩ : ∃ x l, t.shifting = x :: l := List.exists_cons_of_length_pos (by
      rw [List.length_cons] at enough
      omega)
    rw [List.length_append, List.length_cons] at few
    rw [shown, List.length_cons, List.length_cons] at enough
    have one : (t.gathered ++ [b]).length < 8 := by
      rw [List.length_append, List.length_singleton]
      omega
    rw [List.cons_append, shiftedOut_cons, hsckRise_of_partial one, hsckFall_of_partial (by simp), hsdo_setTransaction, ih]
    · simp [shown]
    · simp only [List.length_append, List.length_singleton]
      omega
    · simp only [shown, List.drop_succ_cons, List.drop_zero]
      omega

/-- The first seven bits of a byte, and the last. -/
theorem bitsOf_split (v : Byte) : ∃ seven last, bitsOf v = seven ++ [last] ∧ seven.length = 7 :=
  ⟨[7, 6, 5, 4, 3, 2, 1].map (fun k => v.getLsbD k), v.getLsbD 0, rfl, rfl⟩

theorem length_bitsOf (v : Byte) : (bitsOf v).length = 8 := rfl

/-- A whole byte: eight bits shifted out, then the next is captured. -/
theorem shiftedOut_byte (running : InProgress t) (start : t.gathered = []) {w : Byte} (shows : t.shifting = bitsOf w)
    (v : Byte) (rest : List Bool) : shiftedOut (bitsOf v ++ rest) (s.setTransaction (some t))
      = (bitsOf w).map some ++ shiftedOut rest ((queued (spells t [v]) s).setTransaction
          (some (captured (queued (spells t [v]) s) (took t v)))) := by
  obtain ⟨seven, last, bits, length⟩ := bitsOf_split v
  obtain ⟨shown, final, shownBits, shownLength⟩ := bitsOf_split w
  have whole : bytesOf (bitsOf v) = [v] := by
    have alone := bytesOf_bitsOf v []
    rwa [List.append_nil] at alone
  let atLast : Transaction := { t with gathered := seven, shifting := [final] }
  have runs : InProgress atLast := ⟨by rw [length]; decide, running.opcodeFirst⟩
  have rise : hsckRise last (s.setTransaction (some atLast))
      = (queued (spells t [v]) s).setTransaction (some (took atLast v)) :=
    (hsckRise_of_last runs (v := v) (rest := []) (by rw [← bits, whole])).trans
      (by rw [spells_congr (x := atLast) (t := t) rfl rfl])
  have sameTook (u : State) : captured u (took atLast v) = captured u (took t v) := by
    unfold captured took
    cases t.opcode <;> cases t.address <;> rfl
  have firstSeven : shiftedOut (seven ++ (last :: rest)) (s.setTransaction (some t))
      = shown.map some ++ shiftedOut (last :: rest) (s.setTransaction (some atLast)) := by
    rw [shiftedOut_partial seven _ (by rw [start, List.nil_append]; omega) (by rw [shows, length_bitsOf]; omega), start,
      shows, length, shownBits, List.take_left' shownLength, List.drop_left' shownLength, List.nil_append]
  rw [bits, List.append_assoc, List.singleton_append, firstSeven, shiftedOut_cons, hsdo_setTransaction, rise,
    hsckFall_of_whole (gathered_took _ v) (opcode_took_ne_none _ v), sameTook, shownBits, List.map_append,
    List.append_assoc]
  rfl

/-! ## A READ (R144, R145) -/

/-- A READ at the first bit of the byte at an address, with bytes that follow it captured already. -/
structure Reads (s : State) (a : Byte) (t : Transaction) : Prop where
  opcode : t.opcode = some 0x03
  address : t.address = some a
  start : t.gathered = []
  shows : t.shifting = bitsOf (s.windowByte a)
  held : ∃ n, t.held = bytesFrom s (a + 1) n

theorem reads_captured {n : Nat} (opcode : t.opcode = some 0x03) (address : t.address = some a) (start : t.gathered = [])
    (held : t.held = bytesFrom s a n) : Reads s a (captured s t) := by
  obtain ⟨m, capture⟩ := captureAt_bytesFrom s a n
  have read : t.capture s = (s.windowByte a, bytesFrom s (a + 1) m) := by
    rw [← capture, ← held]
    simp only [Transaction.capture, opcode, address]
    rfl
  refine ⟨opcode, address, start, ?_, m, ?_⟩
  · rw [captured, read]
  · rw [captured, read]

theorem inProgress_of_whole (start : t.gathered = []) (taken : t.opcode ≠ none) : InProgress t :=
  ⟨by rw [start]; decide, fun absent => absurd absent taken⟩

theorem spells_of_other {op : Byte} (opcode : t.opcode = some op) (other : op ≠ 0x02) (bytes : List Byte) :
    spells t bytes = [] := by
  unfold spells
  rw [opcode]
  cases t.address with
  | none => exact transactionCommands_of_other other _
  | some a => exact transactionCommands_of_other other _

/-- The data bytes of a READ show the window from its address on. -/
theorem shiftedOut_reads (reads : Reads s a t) (data : List Byte) :
    shiftedOut (data.flatMap bitsOf) (s.setTransaction (some t))
      = ((bytesFrom s a data.length).flatMap bitsOf).map some := by
  induction data generalizing a t with
  | nil => rfl
  | cons v data ih =>
    obtain ⟨opcode, address, start, shows, n, held⟩ := reads
    have running := inProgress_of_whole start (by simp [opcode])
    have next : Reads s (a + 1) (captured s (took t v)) := by
      refine reads_captured (n := n) ?_ ?_ (gathered_took t v) ?_
      · simp only [took, opcode, address]
      · simp only [took, opcode, address]
      · simp only [took, opcode, address, held]
    rw [List.flatMap_cons, shiftedOut_byte running start shows, spells_of_other opcode (by decide), queued_nil, ih next,
      List.length_cons, bytesFrom_succ, List.flatMap_cons, List.map_append]

/-- Before its address a transaction shows 00h. -/
theorem capture_of_no_address (absent : t.address = none) (s : State) : t.capture s = (0x00, []) := by
  cases kind : t.opcode.map opcodeOf with
  | none => simp only [Transaction.capture, kind]
  | some op => cases op <;> simp only [Transaction.capture, kind, absent]

theorem bitsOf_zero : bitsOf 0x00 = List.replicate 8 false := rfl

/-- During the opcode byte, and the address byte after it, HSDO shows 00h. -/
theorem shiftedOut_opcode (opcode : Byte) (rest : List Bool) :
    shiftedOut (bitsOf opcode ++ rest) (s.setTransaction (some Transaction.begun)) = (bitsOf 0x00).map some
      ++ shiftedOut rest (s.setTransaction (some { Transaction.begun with opcode := some opcode })) := by
  rw [shiftedOut_byte inProgress_begun rfl (w := 0x00) rfl]
  have quiet : spells Transaction.begun [opcode] = [] := rfl
  have capture : captured s (took Transaction.begun opcode) = { Transaction.begun with opcode := some opcode } := by
    rw [captured, capture_of_no_address rfl, bitsOf_zero]
    rfl
  rw [quiet, queued_nil, capture]

theorem shiftedOut_address (a : Byte) (rest : List Bool) : ∃ t, Reads s a t
    ∧ shiftedOut (bitsOf a ++ rest) (s.setTransaction (some { Transaction.begun with opcode := some 0x03 }))
      = (bitsOf 0x00).map some ++ shiftedOut rest (s.setTransaction (some t)) := by
  refine ⟨captured s (took { Transaction.begun with opcode := some 0x03 } a), reads_captured (n := 0) rfl rfl rfl rfl, ?_⟩
  rw [shiftedOut_byte (inProgress_of_whole rfl (Option.some_ne_none _)) rfl (w := 0x00) rfl,
    spells_of_other rfl (by decide), queued_nil]

/-! ## Any other opcode -/

theorem low_zero : ∀ x ∈ bitsOf 0x00, x = false := by decide

/-- A transaction under an opcode other than READ, with only zeros to shift out. -/
structure Quiet (t : Transaction) : Prop where
  running : InProgress t
  opcode : ∃ op, t.opcode = some op ∧ op ≠ 0x03
  low : ∀ x ∈ t.shifting, x = false

theorem opcodeOf_ne_read {op : Byte} (other : op ≠ 0x03) : opcodeOf op ≠ .read := by
  rw [opcodeOf, if_neg other]
  split <;> nofun

theorem capture_of_other {op : Byte} (opcode : t.opcode = some op) (other : op ≠ 0x03) (s : State) :
    t.capture s = (0x00, []) := by
  have notRead := opcodeOf_ne_read other
  simp only [Transaction.capture, opcode, Option.map_some]
  cases kind : opcodeOf op with
  | read => exact absurd kind notRead
  | write | void => rfl

theorem opcode_took {op : Byte} (opcode : t.opcode = some op) (v : Byte) : (took t v).opcode = some op := by
  cases address : t.address <;> simp only [took, opcode, address]

theorem quiet_period (quiet : Quiet t) (b : Bool) (s : State) :
    ∃ (u : State) (x : Transaction), hsckFall (hsckRise b (s.setTransaction (some t))) = u.setTransaction (some x) ∧ Quiet x := by
  obtain ⟨running, ⟨op, opcode, other⟩, low⟩ := quiet
  by_cases few : (t.gathered ++ [b]).length < 8
  · rw [hsckRise_of_partial few, hsckFall_of_partial (by simp)]
    exact ⟨s, _, rfl, ⟨few, running.opcodeFirst⟩, ⟨op, opcode, other⟩, fun x mem => low x (List.mem_of_mem_drop mem)⟩
  · have gathered := running.partialByte
    have length : (t.gathered ++ [b]).length = t.gathered.length + 1 := List.length_append
    obtain ⟨v, whole⟩ := exists_byte_of_eight (bits := t.gathered ++ [b]) (by omega)
    have alone := whole []
    have taken := opcode_took opcode v
    rw [List.append_nil] at alone
    rw [hsckRise_of_last running alone, hsckFall_of_whole (gathered_took t v) (opcode_took_ne_none t v)]
    refine ⟨_, _, rfl, inProgress_of_whole (gathered_took t v) (opcode_took_ne_none t v), ⟨op, taken, other⟩, ?_⟩
    rw [captured, capture_of_other taken other]
    exact low_zero

theorem shiftedOut_quiet (quiet : Quiet t) (bits : List Bool) (s : State) :
    shiftedOut bits (s.setTransaction (some t)) = List.replicate bits.length (some false) := by
  induction bits generalizing t s with
  | nil => rfl
  | cons b rest ih =>
    obtain ⟨u, x, period, later⟩ := quiet_period quiet b s
    have first : t.shifting.headD false = false := by
      cases shown : t.shifting with
      | nil => rfl
      | cons y l => exact quiet.low y (shown ▸ List.mem_cons_self)
    rw [shiftedOut_cons, hsdo_setTransaction, first, period, ih later]
    rfl

/-! ## The obligation -/

theorem hselFall_begins (resetHigh : s.resetLow = false) (high : s.port.hrstLow = false)
    (idle : s.port.transaction = none) : hselFall s = s.setTransaction (some Transaction.begun) :=
  hselFall_of_listens s (by simp [State.portListens, resetHigh, high]) idle

theorem bits_of_zero : (bitsOf 0x00).map some = List.replicate 8 (some false) := rfl

/-- The window, address by address (12.3, 12.4). -/
theorem window_reads (s : State) (settled : s.settled = true) :
    (s.windowByte 0xC0).getLsbD 0 = !s.loadEnded
    ∧ (∀ k, 2 ≤ k → (s.windowByte 0xC0).getLsbD k = false ∧ (s.windowByte 0xC4).getLsbD k = false)
    ∧ ((s.windowByte 0xC0).getLsbD 1 = true ↔ ∃ i e, s.entryOf i = some e ∧ e.marks ≠ Marks.none_)
    ∧ (s.windowByte 0xC4).getLsbD 0 = decide (s.doze.host = .awake) ∧ (s.windowByte 0xC4).getLsbD 1 = s.doze.wakeEnable := by
  have status : s.windowByte 0xC0 = s.portStatus := windowByte_register settled rfl
  have power : s.windowByte 0xC4 = s.doze.powerByte := windowByte_register settled rfl
  obtain ⟨loading, pending, noStatus⟩ := twoFlags_bits (!s.loadEnded) s.marksPending
  obtain ⟨host, enable, noPower⟩ := twoFlags_bits (decide (s.doze.host = .awake)) s.doze.wakeEnable
  rw [status, power, State.portStatus, Doze.powerByte, pending]
  exact ⟨loading, fun k far => ⟨noStatus k far, noPower k far⟩, marksPending_iff s, host, enable⟩

/-- Settles O34: the registers, the groups, the slots; the counts; then what HSDO shows, byte by byte. -/
theorem windowShowsTheState : Obligations.WindowShowsTheState := by
  refine ⟨fun s settled => ?_, fun s => ⟨counts_add_up s, freeCount_eq, hsdo_eq_none_iff s, rfl⟩,
    fun s a data settled resetHigh high idle => ?_, fun s opcode bits resetHigh high idle other => ?_,
    fun s t a inProgress opcode address start => ?_⟩
  · obtain ⟨loading, upper, marks, host, enable⟩ := window_reads s settled
    refine ⟨loading, upper, marks, windowByte_register settled rfl, windowByte_register settled rfl,
      windowByte_register settled rfl, host, enable, windowByte_register settled rfl, windowByte_register settled rfl,
      windowByte_register settled rfl, windowByte_register settled rfl, window_group settled (group_counts s) rfl, ?_, ?_,
      fun a unused => ?_, fun a n o address => ?_⟩
    · rw [window_group settled (group_record s) rfl, Doze.recordBytes]
      rcases s.doze.record with _ | ⟨h, node, ticket⟩ | h <;> rfl
    · rw [window_group settled (group_params s) rfl, Params.bytes]
      cases s.params.linkSpeed <;> rfl
    · rw [windowByte_register settled (slotAddress_of_high (by omega)), highByte_of_unused unused]
    · rw [windowByte_slot settled address, shown_eq]
  · obtain ⟨t, reads, addressByte⟩ := shiftedOut_address (s := s) a (data.flatMap bitsOf)
    rw [hselFall_begins resetHigh high idle, List.append_assoc, shiftedOut_opcode, addressByte, shiftedOut_reads reads,
      bytesFrom, List.flatMap_map, List.map_append]
    rfl
  · have quiet : Quiet { Transaction.begun with opcode := some opcode } :=
      ⟨inProgress_of_whole rfl (Option.some_ne_none _), ⟨opcode, rfl, other⟩, low_zero⟩
    rw [hselFall_begins resetHigh high idle, shiftedOut_opcode, bits_of_zero, shiftedOut_quiet quiet,
      List.replicate_append_replicate]
  · have capture : t.capture s = captureAt a t.held s := by
      simp only [Transaction.capture, opcode, address]
      rfl
    have fall : hsckFall s = s.setTransaction
        (some { t with held := (captureAt a t.held s).2, shifting := bitsOf (captureAt a t.held s).1 }) := by
      simp only [hsckFall, inProgress, start, opcode, capture, ne_eq, reduceCtorEq, not_false_eq_true, and_self, if_true]
    refine ⟨fun b left held => ?_, fun held => ?_⟩
    · rw [fall, held]
      rfl
    · rw [fall, held, captureAt_nil]
      rfl

end Sys2Proof.Proofs
end

section
/-! PROOFS. START, RESTART and STOP: what each does to the link, and the frames that they end (6.1, 6.2). -/

namespace Sys2Proof.Proofs

open Sys2Proof.Machine Sys2Proof.Laws

variable {s t : State} {c d : Fin 6}

/-! ## Frames that are ended unfinished -/

theorem keepsBut_setContext (c : Fin 6) (x : TrunkContext) : keepsBut [.trunk] s (s.setContext c x) := keepsBut_setTrunk _

/-- The frame being received has claimed context `c`. -/
def claimsContext (l : Link) (c : Fin 6) : Bool :=
  match l.receiver with
  | .frame d _ => decide (d = c)
  | .waiting | .destination | .ignoring => false

/-- The reply being sent is that of context `c`. -/
def sendsContext (l : Link) (c : Fin 6) : Bool :=
  match l.transmitter with
  | some x => decide (x.context = c)
  | none => false

theorem claimsContext_of_frame {part : FramePart} (frame : s.link.receiver = .frame d part) (c : Fin 6) :
    claimsContext s.link c = decide (d = c) := by
  rw [claimsContext, frame]

theorem discardFrame_of_frame {part : FramePart} (frame : s.link.receiver = .frame c part) :
    discardFrame s = clearContext c s := by
  rw [discardFrame, frame]

theorem context_discardFrame (s : State) (c : Fin 6) : (discardFrame s).context c
    = if claimsContext s.link c then TrunkContext.idleWith (s.context c).ticket else s.context c := by
  cases receiver : s.link.receiver with
  | frame d part =>
    rw [discardFrame_of_frame receiver, claimsContext_of_frame receiver, context_clearContext]
    by_cases same : d = c
    · simp [same]
    · simp [same]
  | waiting | destination | ignoring => simp [discardFrame, claimsContext, receiver]

theorem queues_discardFrame (s : State) : (discardFrame s).trunk.received = s.trunk.received
    ∧ (discardFrame s).trunk.ready = s.trunk.ready := by
  unfold discardFrame
  split <;> exact ⟨rfl, rfl⟩

theorem keepsBut_discardFrame (s : State) : keepsBut [.trunk] s (discardFrame s) := by
  unfold discardFrame
  split
  · exact keepsBut_setContext _ _
  all_goals exact keepsBut_refl _

theorem dropSending_of_sending {x : Transmission} (sending : s.link.transmitter = some x) :
    dropSending s = dropReply x.context s := by
  rw [dropSending, sending]

theorem context_dropSending (s : State) (c : Fin 6) : (dropSending s).context c
    = if sendsContext s.link c then TrunkContext.idleWith (s.context c).ticket else s.context c := by
  cases transmitter : s.link.transmitter with
  | none => simp [dropSending_of_silent s transmitter, sendsContext, transmitter]
  | some x =>
    obtain ⟨contexts, -⟩ := dropReply_spec s x.context
    rw [dropSending_of_sending transmitter, contexts, sendsContext, transmitter]
    by_cases same : x.context = c
    · simp [same]
    · simp [same]

theorem queues_dropSending (s : State) : (dropSending s).trunk.received = s.trunk.received
    ∧ (dropSending s).trunk.ready = s.trunk.ready := by
  unfold dropSending
  split <;> exact ⟨rfl, rfl⟩

theorem keepsBut_dropSending (s : State) : keepsBut [.link, .trunk] s (dropSending s) := by
  cases transmitter : s.link.transmitter with
  | none =>
    rw [dropSending_of_silent s transmitter]
    exact keepsBut_refl _
  | some x =>
    obtain ⟨-, -, -, -, keeps⟩ := dropReply_spec s x.context
    rwa [dropSending_of_sending transmitter]

/-- Both the frame being sent and the one being received are over. -/
def dropFrames (s : State) : State := discardFrame (dropSending s)

theorem link_dropFrames (s : State) : (dropFrames s).link = { s.link with transmitter := none } :=
  (discardFrame_link _).trans (dropSending_transmitter s)

theorem keepsBut_dropFrames (s : State) : keepsBut [.link, .trunk] s (dropFrames s) :=
  keepsBut_trans (keepsBut_dropSending s) (keepsBut_mono (keepsBut_discardFrame _) (by simp))

theorem queues_dropFrames (s : State) : (dropFrames s).trunk.received = s.trunk.received
    ∧ (dropFrames s).trunk.ready = s.trunk.ready := by
  obtain ⟨received, ready⟩ := queues_dropSending s
  obtain ⟨received', ready'⟩ := queues_discardFrame (dropSending s)
  exact ⟨received'.trans received, ready'.trans ready⟩

/-- A context that either frame held goes IDLE with its ticket (R116, R121). -/
theorem context_dropFrames (s : State) (c : Fin 6) : (dropFrames s).context c
    = if claimsContext s.link c then TrunkContext.idleWith (s.context c).ticket
      else if sendsContext s.link c then TrunkContext.idleWith (s.context c).ticket else s.context c := by
  have claims : claimsContext (dropSending s).link c = claimsContext s.link c := by
    rw [dropSending_transmitter]
    rfl
  have ticket : ((dropSending s).context c).ticket = (s.context c).ticket := by
    rw [context_dropSending]
    split <;> rfl
  rw [dropFrames, context_discardFrame, claims, ticket, context_dropSending]

/-! ## The conditions -/

theorem exec_startCondition (settled : s.settled = true) : exec .startCondition s = .next (startEffect s) :=
  congrArg (fun u => Host.Outcome.next (startEffect u)) (settle_of_settled s settled)

theorem exec_restartCondition (settled : s.settled = true) : exec .restartCondition s = .next (restartEffect s) :=
  congrArg (fun u => Host.Outcome.next (restartEffect u)) (settle_of_settled s settled)

theorem exec_stopCondition (settled : s.settled = true) : exec .stopCondition s = .next (stopEffect s) :=
  congrArg (fun u => Host.Outcome.next (stopEffect u)) (settle_of_settled s settled)

/-- A frame begins: the link, as START and RESTART leave it (R115). -/
def begunLink (s : State) (l : Link) : Link :=
  { l with
    state := .busy, latchedDir := some s.params.dirAddress, afterLoad := s.loadEnded, receiver := .destination
    crc := 0x00, ackLow := false }

theorem link_beginFrame_dropFrames (s : State) :
    (beginFrame (dropFrames s)).link = { begunLink s s.link with transmitter := none } := by
  obtain ⟨-, same⟩ := keepsBut_dropFrames s
  have params : (dropFrames s).params = s.params := same .params (by simp)
  have loader : (dropFrames s).loader = s.loader := same .loader (by simp)
  change begunLink (dropFrames s) (dropFrames s).link = _
  rw [link_dropFrames, begunLink, begunLink, params, State.loadEnded, State.loadEnded, loader]

/-- The link after a STOP (R109). -/
def endedLink (l : Link) : Link := { l with state := .idle, receiver := .waiting, ackLow := false, transmitter := none }

theorem link_endFrame (silent : s.link = { t.link with transmitter := none }) : (endFrame s).link = endedLink t.link := by
  change { s.link with state := .idle, receiver := .waiting, ackLow := false } = _
  rw [silent, endedLink]

theorem stopEffect_of_complete (busy : s.link.state = .busy) (complete : s.link.receiver = .frame c .complete) :
    stopEffect s = endFrame (completeFrame c (dropSending s)) := by
  have receiver : (dropSending s).link.receiver = .frame c .complete := by
    rw [dropSending_transmitter]
    exact complete
  rw [stopEffect, if_pos busy]
  simp only [receiver]

theorem stopEffect_of_incomplete (busy : s.link.state = .busy) (incomplete : ∀ c, s.link.receiver ≠ .frame c .complete) :
    stopEffect s = endFrame (dropFrames s) := by
  have receiver : (dropSending s).link.receiver = s.link.receiver := by rw [dropSending_transmitter]
  rw [stopEffect, if_pos busy]
  dsimp only
  split
  next c complete => exact absurd (receiver.symm.trans complete) (incomplete c)
  all_goals rfl

theorem keepsBut_completeFrame (c : Fin 6) : keepsBut [.trunk] s (completeFrame c s) :=
  keepsBut_trans (keepsBut_setContext c _) (keepsBut_setTrunk _)

/-- Settles O47: each condition in turn; a frame that is over gives its context back, and a complete one is received. -/
theorem lineConditionsBeginAndEndFrames : Obligations.LineConditionsBeginAndEndFrames := by
  intro s settled
  have start := exec_startCondition settled
  have restart := exec_restartCondition settled
  have stop := exec_stopCondition settled
  have begins (u : State) : keepsBut [.link] u (beginFrame u) := keepsBut_setLink _
  have ends (u : State) : keepsBut [.link] u (endFrame u) := keepsBut_setLink _
  refine ⟨fun resetHigh idle => ⟨_, start.trans (congrArg Host.Outcome.next (if_pos ⟨resetHigh, idle⟩)), begins s, rfl⟩,
    fun busy => start.trans (congrArg Host.Outcome.next (if_neg fun free => busy free.2)),
    fun busy => ⟨⟨_, restart.trans (congrArg Host.Outcome.next (if_pos busy)), ?_, ?_, ?_⟩, fun incomplete => ?_,
      fun c complete => ?_⟩,
    fun quiet => ⟨restart.trans (congrArg Host.Outcome.next (if_neg quiet)),
      stop.trans (congrArg Host.Outcome.next (if_neg quiet))⟩⟩
  · exact keepsBut_trans (keepsBut_dropFrames s) (keepsBut_mono (begins _) (by simp))
  · exact link_beginFrame_dropFrames s
  · exact ⟨context_dropFrames s, queues_dropFrames s⟩
  · refine ⟨_, stop.trans (congrArg Host.Outcome.next (stopEffect_of_incomplete busy incomplete)), ?_, ?_, ?_⟩
    · exact keepsBut_trans (keepsBut_dropFrames s) (keepsBut_mono (ends _) (by simp))
    · exact link_endFrame (link_dropFrames s)
    · exact ⟨context_dropFrames s, queues_dropFrames s⟩
  · have completed (d : Fin 6) : (endFrame (completeFrame c (dropSending s))).context d
        = if c = d then { (dropSending s).context c with state := .received } else (dropSending s).context d :=
      context_setContext (dropSending s) c d _
    obtain ⟨received, ready⟩ := queues_dropSending s
    refine ⟨_, stop.trans (congrArg Host.Outcome.next (stopEffect_of_complete busy complete)), ?_, ?_, ?_, ?_, ?_, ready⟩
    · exact keepsBut_trans (keepsBut_dropSending s)
        (keepsBut_trans (keepsBut_mono (keepsBut_completeFrame c) (by simp)) (keepsBut_mono (ends _) (by simp)))
    · exact link_endFrame (dropSending_transmitter s)
    · rw [completed, if_pos rfl, context_dropSending]
      rfl
    · intro d other
      rw [completed, if_neg (Ne.symm other), context_dropSending]
      rfl
    · exact congrArg (· ++ [c]) received

end Sys2Proof.Proofs
end

section
/-! PROOFS. A received byte: the destination that claims a context, and the judging of every later byte (6.3, 6.4). -/

namespace Sys2Proof.Proofs

open Sys2Proof.Machine Sys2Proof.Laws

variable {s t : State} {c : Fin 6} {v : Byte} {part next : FramePart} {x : TrunkContext}

/-! ## The context to claim (R115) -/

theorem idleContext_eq_some_iff :
    s.idleContext = some c ↔ (s.context c).state = .idle ∧ ∀ d, d < c → (s.context d).state ≠ .idle := by
  rw [State.idleContext, List.find?_eq_some_iff_getElem]
  simp only [decide_eq_true_eq, List.getElem_finRange, List.length_finRange, Bool.not_eq_true', decide_eq_false_iff_not]
  refine and_congr_right fun _ => ⟨?_, fun lower => ?_⟩
  · rintro ⟨i, hi, rfl, lower⟩ d hd
    exact lower d.val hd
  · exact ⟨c.val, c.isLt, rfl, fun d hd => lower ⟨d, by omega⟩ hd⟩

theorem idleContext_eq_none_iff : s.idleContext = none ↔ ∀ c, (s.context c).state ≠ .idle := by
  simp [State.idleContext]

theorem claimable_of_idle (busy : s.link.state = .busy) (latched : s.link.latchedDir = some v)
    (after : s.link.afterLoad = true) (idle : s.idleContext = some c) : claimable v s = some c := by
  have free : s.link.state ≠ .fault := by simp [busy]
  rw [claimable, if_pos ⟨latched, free, after⟩, idle]

theorem claimable_eq_none
    (barred : s.link.latchedDir ≠ some v ∨ s.link.afterLoad = false ∨ ∀ c, (s.context c).state ≠ .idle) :
    claimable v s = none := by
  unfold claimable
  split
  next free =>
    obtain ⟨latched, -, after⟩ := free
    obtain other | loading | taken := barred
    · exact absurd latched other
    · exact absurd after (by simp [loading])
    · exact idleContext_eq_none_iff.mpr taken
  · rfl

/-! ## A byte that is acknowledged, and one that is refused -/

/-- The byte is acknowledged: `part` comes next, and context `c` is now `x`. -/
def TakesByte (v : Byte) (c : Fin 6) (part : FramePart) (x : TrunkContext) (s t : State) : Prop :=
  keepsBut [.link, .trunk] s t
    ∧ t.link = { s.link with receiver := .frame c part, crc := crcByte s.link.crc v, ackLow := true }
    ∧ t.context c = x ∧ (∀ d, d ≠ c → t.context d = s.context d)
    ∧ t.trunk.received = s.trunk.received ∧ t.trunk.ready = s.trunk.ready

/-- The byte is stored in context `c`, which becomes `x`, and `part` comes next. -/
def stored (c : Fin 6) (part : FramePart) (v : Byte) (x : TrunkContext) (s : State) : State :=
  acceptNext c part v (s.setContext c x)

theorem takesByte_stored : TakesByte v c part x s (stored c part v x s) :=
  ⟨keepsBut_trans (keepsBut_mono (keepsBut_setContext c x) (by simp)) (keepsBut_mono (keepsBut_setLink _) (by simp)),
    rfl, context_setContext_self s c x, fun _ other => context_setContext_of_ne other, rfl, rfl⟩

/-- The byte is not acknowledged, the context goes IDLE and the rest of the frame is ignored. -/
def RefusesByte (c : Fin 6) (s t : State) : Prop :=
  keepsBut [.link, .trunk] s t ∧ t.link = { s.link with receiver := .ignoring, ackLow := false }
    ∧ t.context c = TrunkContext.idleWith (s.context c).ticket ∧ (∀ d, d ≠ c → t.context d = s.context d)
    ∧ t.trunk.received = s.trunk.received ∧ t.trunk.ready = s.trunk.ready

theorem refusesByte_clearContext : RefusesByte c s (ignoreRest (clearContext c s)) :=
  ⟨keepsBut_trans (keepsBut_mono (keepsBut_setContext c _) (by simp)) (keepsBut_mono (keepsBut_setLink _) (by simp)),
    rfl, context_setContext_self s c _, fun _ other => context_setContext_of_ne other, rfl, rfl⟩

/-! ## RECEIVE_BYTE -/

theorem exec_receiveByte (settled : s.settled = true) (v : Byte) :
    exec (.receiveByte v) s = .next (receiveEffect v s) :=
  congrArg (fun u => Host.Outcome.next (receiveEffect v u)) (settle_of_settled s settled)

theorem follows_iff : s.follows = true ↔ s.link.state = .busy ∧ s.link.transmitter = none := by
  simp [State.follows]

theorem receiveEffect_of_destination (follows : s.follows = true) (waits : s.link.receiver = .destination) (v : Byte) :
    receiveEffect v s = judgeDestination v s := by
  rw [receiveEffect, if_pos follows]
  simp only [waits]

theorem receiveEffect_of_frame (follows : s.follows = true) (frame : s.link.receiver = .frame c part) (v : Byte) :
    receiveEffect v s = judgeByte c part v s := by
  rw [receiveEffect, if_pos follows]
  simp only [frame]

theorem receiveEffect_of_idle (follows : s.follows = true)
    (quiet : s.link.receiver = .waiting ∨ s.link.receiver = .ignoring) (v : Byte) :
    receiveEffect v s = s.setLink { s.link with ackLow := false } := by
  rw [receiveEffect, if_pos follows]
  obtain waits | ignores := quiet
  · simp only [waits]
  · simp only [ignores]

/-- A destination byte that claims context `c` (R115). -/
theorem exec_receiveByte_claims (settled : s.settled = true) (follows : s.follows = true)
    (waits : s.link.receiver = .destination) (claims : claimable v s = some c) :
    exec (.receiveByte v) s = .next (stored c .source v (claimedContext (s.context c)) s) := by
  rw [exec_receiveByte settled, receiveEffect_of_destination follows waits, judgeDestination, claims]
  rfl

/-- A later byte that is acknowledged (R116). -/
theorem exec_receiveByte_accepts (settled : s.settled = true) (follows : s.follows = true)
    (frame : s.link.receiver = .frame c part) (accepts : acceptByte s.link.crc v (s.context c) part = some (next, x)) :
    exec (.receiveByte v) s = .next (stored c next v x s) := by
  rw [exec_receiveByte settled, receiveEffect_of_frame follows frame, judgeByte, accepts]
  rfl

/-- A later byte that is not (R116). -/
theorem exec_receiveByte_refuses (settled : s.settled = true) (follows : s.follows = true)
    (frame : s.link.receiver = .frame c part) (refuses : acceptByte s.link.crc v (s.context c) part = none) :
    exec (.receiveByte v) s = .next (ignoreRest (clearContext c s)) := by
  rw [exec_receiveByte settled, receiveEffect_of_frame follows frame, judgeByte, refuses]
  exact congrArg (fun u => Host.Outcome.next (ignoreRest u)) (discardFrame_of_frame frame)

/-- A destination byte that claims nothing (R115). -/
theorem exec_receiveByte_unclaimed (settled : s.settled = true) (follows : s.follows = true)
    (waits : s.link.receiver = .destination) (free : claimable v s = none) :
    exec (.receiveByte v) s = .next (ignoreRest s) := by
  rw [exec_receiveByte settled, receiveEffect_of_destination follows waits, judgeDestination, free]

theorem isNode_iff (v : Byte) : isNode v = true ↔ 1 ≤ v.toNat ∧ v.toNat ≤ 111 := by simp [isNode]

/-- Settles O48: a byte of no one's frame, of one's own, the destination, a byte of a claimed frame part by part, and a
byte of an ignored frame. -/
theorem receivedBytesAreJudged : Obligations.ReceivedBytesAreJudged := by
  intro s v settled
  refine ⟨fun other => ?_, fun busy silent => ?_⟩
  · have led : ¬s.follows = true := fun follows =>
      other.elim (fun still => still (follows_iff.mp follows).1) (fun sends => sends (follows_iff.mp follows).2)
    exact (exec_receiveByte settled v).trans (congrArg Host.Outcome.next (if_neg led))
  have follows : s.follows = true := follows_iff.mpr ⟨busy, silent⟩
  refine ⟨fun waits => ⟨fun c latched after idle lower => ?_, fun barred => ?_⟩, fun c part frame => ?_, fun quiet => ?_⟩
  · have lowest := claimable_of_idle busy latched after (idleContext_eq_some_iff.mpr ⟨idle, lower⟩)
    exact ⟨_, exec_receiveByte_claims settled follows waits lowest, takesByte_stored⟩
  · exact ⟨_, exec_receiveByte_unclaimed settled follows waits (claimable_eq_none barred), keepsBut_setLink _, rfl⟩
  · have takes (next : FramePart) (x : TrunkContext)
        (accepts : acceptByte s.link.crc v (s.context c) part = some (next, x)) :
        ∃ t, exec (.receiveByte v) s = .next t ∧ TakesByte v c next x s t :=
      ⟨_, exec_receiveByte_accepts settled follows frame accepts, takesByte_stored⟩
    have refused (refuses : acceptByte s.link.crc v (s.context c) part = none) :
        ∃ t, exec (.receiveByte v) s = .next t ∧ RefusesByte c s t :=
      ⟨_, exec_receiveByte_refuses settled follows frame refuses, refusesByte_clearContext⟩
    cases part with
    | source =>
      dsimp only
      split
      next node => exact takes _ _ (if_pos ((isNode_iff v).mpr node))
      next other => exact refused (if_neg fun node => other ((isNode_iff v).mp node))
    | kind | tag | payload _ => exact takes _ _ rfl
    | length =>
      dsimp only
      split
      next fits => exact takes _ _ (if_pos fits)
      next long => exact refused (if_neg long)
    | check =>
      dsimp only
      split
      next agrees => exact takes _ _ (if_pos agrees)
      next differs => exact refused (if_neg differs)
    | complete => exact refused rfl
  · exact ⟨_, (exec_receiveByte settled v).trans (congrArg Host.Outcome.next (receiveEffect_of_idle follows quiet v)),
      keepsBut_setLink _, rfl⟩

end Sys2Proof.Proofs
end

section
/-! PROOFS. A whole request frame: START, its bytes, and STOP (6.3, 6.4, 6.7). -/

namespace Sys2Proof.Proofs

open Sys2Proof.Machine Sys2Proof.Laws

variable {s t u : State} {c : Fin 6} {i : Instr} {is js : List Instr} {part next : FramePart} {x y : TrunkContext}
  {k v : Byte}

/-! ## Commands run one after another -/

theorem runAll_cons (step : exec i s = .next t) : runAll (i :: is) s = runAll is t := by
  rw [runAll, step]

theorem runAll_append (first : runAll is s = .next t) : runAll (is ++ js) s = runAll js t := by
  induction is generalizing s with
  | nil =>
    cases first
    rfl
  | cons i is ih =>
    cases step : exec i s with
    | next u =>
      rw [runAll_cons step] at first
      rw [List.cons_append, runAll_cons step, ih first]
    | fault f | refused r => simp [runAll, step] at first

/-! ## Nothing falls due while a frame is received -/

/-- The low runs and the ticks are as they were, the link is not in FAULT, and no context waits for the host anew. -/
theorem settled_of_calm (settled : s.settled = true) (working : s.link.state ≠ .fault) (free : t.link.state ≠ .fault)
    (clock : t.link.tkcLow = s.link.tkcLow) (data : t.link.tkdLow = s.link.tkdLow) (time : t.time = s.time)
    (contexts : ∀ d, t.context d = s.context d ∨ (t.context d).state ≠ .awaitingHost) : t.settled = true := by
  obtain ⟨fault, -, tenMs, expiry, second⟩ := (settled_iff s).mp settled
  refine (settled_iff t).mpr ⟨?_, ?_, time ▸ tenMs, ?_, time ▸ second⟩
  · rw [← Bool.not_eq_true, faultDue_iff] at fault ⊢
    rintro ⟨-, stuck⟩
    exact fault ⟨working, clock ▸ data ▸ stuck⟩
  · rw [← Bool.not_eq_true, releaseDue_iff]
    exact fun due => free due.1
  · rw [expiryDue_eq_false_iff] at expiry ⊢
    intro d
    obtain same | other := contexts d
    · rw [same]
      exact expiry d
    · rw [← Bool.not_eq_true, expired_iff]
      exact fun waits => other waits.1

/-! ## A frame under way -/

/-- From `s` on a frame has claimed context `c`, which now is `x`: `part` comes next, and the bytes so far leave `k` in
the check register. -/
structure Receives (c : Fin 6) (part : FramePart) (k : Byte) (x : TrunkContext) (s t : State) : Prop where
  keeps : keepsBut [.link, .trunk] s t
  settled : t.settled = true
  busy : t.link.state = .busy
  silent : t.link.transmitter = none
  frame : t.link.receiver = .frame c part
  check : t.link.crc = k
  context : t.context c = x
  receiving : x.state = .receiving
  others : ∀ d, d ≠ c → t.context d = s.context d
  received : t.trunk.received = s.trunk.received
  ready : t.trunk.ready = s.trunk.ready

/-- What a byte leaves where it is taken, if the part was already following a frame. -/
theorem receives_of_takesByte (keeps : keepsBut [.link, .trunk] s t) (others : ∀ d, d ≠ c → t.context d = s.context d)
    (received : t.trunk.received = s.trunk.received) (ready : t.trunk.ready = s.trunk.ready)
    (settled : t.settled = true) (busy : t.link.state = .busy) (silent : t.link.transmitter = none)
    (receiving : x.state = .receiving) (takes : TakesByte v c part x t u) :
    Receives c part (crcByte t.link.crc v) x s u := by
  obtain ⟨keeps', link, context, others', received', ready'⟩ := takes
  have busy' : u.link.state = .busy := (congrArg Link.state link).trans busy
  refine ⟨keepsBut_trans keeps keeps', ?_, busy', (congrArg Link.transmitter link).trans silent,
    congrArg Link.receiver link, congrArg Link.crc link, context, receiving,
    fun d other => (others' d other).trans (others d other), received'.trans received, ready'.trans ready⟩
  refine settled_of_calm settled (by simp [busy]) (by simp [busy']) (by rw [link]) (by rw [link])
    (keeps'.2 .time (by simp)) fun d => ?_
  by_cases same : d = c
  · right
    rw [same, context, receiving]
    exact nofun
  · exact .inl (others' d same)

/-- One more byte is taken. -/
theorem Receives.byte (h : Receives c part k x s t) (accepts : acceptByte k v x part = some (next, y)) :
    ∃ u, exec (.receiveByte v) t = .next u ∧ Receives c next (crcByte k v) y s u := by
  obtain ⟨state, -, -, -⟩ := acceptByte_keeps accepts
  have follows := follows_iff.mpr ⟨h.busy, h.silent⟩
  refine ⟨_, exec_receiveByte_accepts h.settled follows h.frame (by rw [h.check, h.context, accepts]), ?_⟩
  rw [← h.check]
  exact receives_of_takesByte h.keeps h.others h.received h.ready h.settled h.busy h.silent (state.trans h.receiving)
    takesByte_stored

/-- The payload is appended byte by byte, and the check follows. -/
theorem Receives.payload {payload : List Byte} (h : Receives c (payloadPart payload.length) k x s t) :
    ∃ u, runAll (payload.map Instr.receiveByte) t = .next u
      ∧ Receives c .check (payload.foldl crcByte k) { x with payload := x.payload ++ payload } s u := by
  induction payload generalizing k x t with
  | nil =>
    refine ⟨t, rfl, ?_⟩
    rw [List.append_nil]
    exact h
  | cons v rest ih =>
    obtain ⟨u, step, taken⟩ := h.byte (v := v) (next := payloadPart rest.length) rfl
    obtain ⟨w, run, done⟩ := ih taken
    refine ⟨w, (runAll_cons step).trans run, ?_⟩
    rw [List.append_cons]
    exact done

/-- Kind, tag, length and payload, after a source that may request. -/
theorem Receives.body {source kind tag : Byte} {payload : List Byte} (h : Receives c .source k x s t)
    (empty : x.payload = []) (node : isNode source = true) (fits : payload.length ≤ 40) :
    ∃ u, runAll (([source, kind, tag, BitVec.ofNat 8 payload.length] ++ payload).map Instr.receiveByte) t = .next u
      ∧ Receives c .check (([source, kind, tag, BitVec.ofNat 8 payload.length] ++ payload).foldl crcByte k)
          { x with requester := some source, kind := some kind, tag := some tag, length := some payload.length
                   payload := payload } s u := by
  have length : (BitVec.ofNat 8 payload.length).toNat = payload.length := toNat_ofNat_byte (by omega)
  obtain ⟨t₁, step₁, h₁⟩ := h.byte (v := source) (if_pos node)
  obtain ⟨t₂, step₂, h₂⟩ := h₁.byte (v := kind) rfl
  obtain ⟨t₃, step₃, h₃⟩ := h₂.byte (v := tag) rfl
  obtain ⟨t₄, step₄, h₄⟩ := h₃.byte (v := BitVec.ofNat 8 payload.length) (if_pos (by rw [length]; exact fits))
  rw [length] at h₄
  obtain ⟨u, run, done⟩ := h₄.payload
  rw [empty, List.nil_append] at done
  exact ⟨u, (runAll_cons step₁).trans ((runAll_cons step₂).trans ((runAll_cons step₃).trans
    ((runAll_cons step₄).trans run))), done⟩

/-- The destination byte claims the lowest IDLE context. -/
theorem receives_of_start (settled : s.settled = true) (ended : s.loadEnded = true) (idle : s.link.state = .idle)
    (silent : s.link.transmitter = none) (lowest : s.idleContext = some c) :
    ∃ t, runAll [.startCondition, .receiveByte s.params.dirAddress] s = .next t
      ∧ Receives c .source (crcByte 0x00 s.params.dirAddress) (claimedContext (s.context c)) s t := by
  have resetHigh : s.resetLow = false := by
    rw [← Bool.not_eq_true, resetLow_iff]
    intro held
    simp [State.loadEnded, held] at ended
  have start : exec .startCondition s = .next (beginFrame s) :=
    (exec_startCondition settled).trans (congrArg Host.Outcome.next (if_pos ⟨resetHigh, idle⟩))
  have begun : (beginFrame s).settled = true :=
    settled_of_calm settled (by simp [idle]) nofun rfl rfl rfl fun _ => .inl rfl
  have claims : claimable s.params.dirAddress (beginFrame s) = some c := claimable_of_idle rfl rfl ended lowest
  have claim := exec_receiveByte_claims begun (follows_iff.mpr ⟨rfl, silent⟩) rfl claims
  refine ⟨_, (runAll_cons start).trans ((runAll_cons claim).trans rfl), ?_⟩
  exact receives_of_takesByte (t := beginFrame s) (keepsBut_mono (keepsBut_setLink _) (by simp)) (fun _ _ => rfl) rfl rfl
    begun rfl silent rfl takesByte_stored

/-- STOP after a check that agreed: the context is RECEIVED and joins the queue. -/
theorem Receives.stop (h : Receives c .complete k x s t) :
    ∃ u, exec .stopCondition t = .next u ∧ keepsBut [.link, .trunk] s u ∧ u.link.state = .idle
      ∧ u.link.receiver = .waiting ∧ u.context c = { x with state := .received }
      ∧ (∀ d, d ≠ c → u.context d = s.context d)
      ∧ u.trunk.received = s.trunk.received ++ [c] ∧ u.trunk.ready = s.trunk.ready := by
  obtain ⟨-, -, stops, -⟩ := lineConditionsBeginAndEndFrames t h.settled
  obtain ⟨-, -, complete⟩ := stops h.busy
  obtain ⟨u, stop, keeps, link, context, others, received, ready⟩ := complete c h.frame
  simp only [h.silent] at context others
  refine ⟨u, stop, keepsBut_trans h.keeps keeps, congrArg Link.state link, congrArg Link.receiver link, ?_,
    fun d other => (others d other).trans (h.others d other), received.trans (congrArg (· ++ [c]) h.received),
    ready.trans h.ready⟩
  rw [context, ← h.context]
  rfl

/-- Settles O49: START and the destination claim the context, the other bytes fill it, the check agrees, STOP ends the
frame. -/
theorem wholeFrameIsReceived : Obligations.WholeFrameIsReceived := by
  intro s c source kind tag payload settled ended idle silent free lower least most fits
  obtain ⟨t, start, claimed⟩ :=
    receives_of_start settled ended idle silent (idleContext_eq_some_iff.mpr ⟨free, lower⟩)
  obtain ⟨u, body, filled⟩ :=
    claimed.body (kind := kind) (tag := tag) (payload := payload) rfl ((isNode_iff source).mpr ⟨least, most⟩) fits
  let bytes := [s.params.dirAddress, source, kind, tag, BitVec.ofNat 8 payload.length] ++ payload
  obtain ⟨w, check, complete⟩ := filled.byte (v := crc bytes) (next := .complete) (if_pos rfl)
  obtain ⟨z, stop, left⟩ := complete.stop
  have run : runAll (.startCondition :: (requestFrame s.params.dirAddress source kind tag payload).map Instr.receiveByte
      ++ [.stopCondition]) s = .next z := by
    have split : (.startCondition :: (requestFrame s.params.dirAddress source kind tag payload).map Instr.receiveByte
          ++ [.stopCondition])
        = [.startCondition, .receiveByte s.params.dirAddress]
          ++ (([source, kind, tag, BitVec.ofNat 8 payload.length] ++ payload).map Instr.receiveByte
          ++ [.receiveByte (crc bytes), .stopCondition]) := by
      simp [requestFrame, bytes]
    rw [split, runAll_append start, runAll_append body, runAll_cons check, runAll_cons stop, runAll]
  exact ⟨z, run, left⟩

end Sys2Proof.Proofs
end

section
/-! PROOFS. Sending a reply: its start, the acknowledge bits, a lost arbitration, and its check byte (6.3, 6.5). -/

namespace Sys2Proof.Proofs

open Sys2Proof.Machine Sys2Proof.Laws

variable {s : State} {c : Fin 6} {x : Transmission}

/-! ## The check (R114) -/

theorem crc_append (l : List Byte) (b : Byte) : crc (l ++ [b]) = crcByte (crc l) b := List.foldl_append

/-- A byte that equals the register empties it. -/
theorem crcByte_self (r : Byte) : crcByte r r = 0x00 := by
  rw [crcByte, BitVec.xor_self]
  rfl

theorem crc_append_crc (l : List Byte) : crc (l ++ [crc l]) = 0x00 := (crc_append l _).trans (crcByte_self _)

/-! ## The rows of the transmitter -/

theorem exec_replySendStart (settled : s.settled = true) : exec .replySendStart s = .next (sendStart s) :=
  congrArg (fun u => Host.Outcome.next (sendStart u)) (settle_of_settled s settled)

theorem exec_sendByteAck (settled : s.settled = true) (acknowledged : Bool) :
    exec (.sendByteAck acknowledged) s = .next (ackEffect acknowledged s) :=
  congrArg (fun u => Host.Outcome.next (ackEffect acknowledged u)) (settle_of_settled s settled)

theorem exec_arbitrationLost (settled : s.settled = true) (bit : Fin 8) :
    exec (.arbitrationLost bit) s = .next (lostEffect bit s) :=
  congrArg (fun u => Host.Outcome.next (lostEffect bit u)) (settle_of_settled s settled)

theorem sendStart_of_ready {rest : List (Fin 6)} (resetHigh : s.resetLow = false) (idle : s.link.state = .idle)
    (silent : s.link.transmitter = none) (ready : s.trunk.ready = c :: rest) : sendStart s = startSending c rest s := by
  rw [sendStart]
  simp only [ready]
  exact if_pos ⟨resetHigh, idle, silent⟩

theorem ackEffect_refused (sending : s.link.transmitter = some x) :
    ackEffect false s = setTrunkCause .undelivered (endSending x.context s) := by
  simp only [ackEffect, sending, if_true]

theorem ackEffect_last (sending : s.link.transmitter = some x) (last : (s.sentFrame x.context).length ≤ x.sent + 1) :
    ackEffect true s = endSending x.context s := by
  simp only [ackEffect, sending, Bool.true_eq_false, if_false, if_pos last]

theorem ackEffect_more (sending : s.link.transmitter = some x) (more : x.sent + 1 < (s.sentFrame x.context).length) :
    ackEffect true s = s.setLink { s.link with receiver := .ignoring, transmitter := some { x with sent := x.sent + 1 } } := by
  simp only [ackEffect, sending, Bool.true_eq_false, if_false, if_neg (Nat.not_le.mpr more)]

theorem lostEffect_of_one {bit : Fin 8} (sending : s.link.transmitter = some x) (one : s.sendsOne x bit = true) :
    lostEffect bit s = putBack x.context s := by
  simp only [lostEffect, sending, one, if_true]
  rfl

theorem lostEffect_of_zero {bit : Fin 8} (sending : s.link.transmitter = some x) (zero : s.sendsOne x bit = false) :
    lostEffect bit s = s := by
  simp only [lostEffect, sending, zero, Bool.false_eq_true, if_false]

/-! ## What they leave -/

/-- Context `c` is `y`, and the ready queue `ready`; every other context and the received queue are as they were. -/
def MovesContext (c : Fin 6) (y : TrunkContext) (ready : List (Fin 6)) (s t : State) : Prop :=
  t.context c = y ∧ (∀ d, d ≠ c → t.context d = s.context d) ∧ t.trunk.ready = ready
    ∧ t.trunk.received = s.trunk.received

theorem movesContext_moveContext (state : TrunkState) (ready : List (Fin 6)) :
    MovesContext c { s.context c with state := state } ready s (moveContext c state ready s) :=
  ⟨context_setContext_self s c _, fun _ other => context_setContext_of_ne other, rfl, rfl⟩

theorem keepsBut_moveContext (state : TrunkState) (ready : List (Fin 6)) :
    keepsBut [.trunk] s (moveContext c state ready s) :=
  keepsBut_trans (keepsBut_setContext c _) (keepsBut_setTrunk _)

theorem keepsBut_startSending (rest : List (Fin 6)) : keepsBut [.link, .trunk] s (startSending c rest s) :=
  keepsBut_trans (keepsBut_mono (keepsBut_moveContext .sending rest) (by simp))
    (keepsBut_mono (keepsBut_trans (t := beginFrame (moveContext c .sending rest s)) (keepsBut_setLink _)
      (keepsBut_setLink _)) (by simp))

theorem keepsBut_putBack : keepsBut [.link, .trunk] s (putBack c s) :=
  keepsBut_trans (keepsBut_mono (keepsBut_moveContext .replyReady (c :: s.trunk.ready)) (by simp))
    (keepsBut_mono (keepsBut_setLink _) (by simp))

theorem keepsBut_endSending : keepsBut [.link, .trunk] s (endSending c s) := by
  obtain ⟨-, -, -, -, keeps⟩ := dropReply_spec s c
  exact keepsBut_trans keeps (keepsBut_mono (keepsBut_setLink _) (by simp))

/-- The reply is over: the link IDLE, the context too, with its ticket (R121). -/
theorem endSending_spec (s : State) (c : Fin 6) : (endSending c s).link = endedLink s.link
    ∧ (endSending c s).context c = TrunkContext.idleWith (s.context c).ticket
    ∧ (∀ d, d ≠ c → (endSending c s).context d = s.context d)
    ∧ (endSending c s).trunk.ready = s.trunk.ready ∧ (endSending c s).trunk.received = s.trunk.received := by
  obtain ⟨contexts, link, received, ready, -⟩ := dropReply_spec s c
  exact ⟨link_endFrame link, (contexts c).trans (if_pos rfl), fun d other => (contexts d).trans (if_neg (Ne.symm other)),
    ready, received⟩

theorem keepsBut_setTrunkCause (cause : Cause) : keepsBut [.notify] s (setTrunkCause cause s) := keepsBut_setNotify _

/-! ## The frame being sent (R118) -/

theorem sentFrame_eq {source node tag : Byte} {r : Reply} (latched : s.link.latchedDir = some source)
    (requester : (s.context c).requester = some node) (tagged : (s.context c).tag = some tag)
    (reply : (s.context c).reply = some r) : s.sentFrame c = replyFrame node source tag r := by
  simp only [State.sentFrame, TrunkContext.frame, TrunkContext.node, latched, requester, tagged, reply, Option.getD_some]

theorem sendsOne_eq {frame : List Byte} {bit : Fin 8} (sent : s.sentFrame x.context = frame)
    (h : x.sent < frame.length) : s.sendsOne x bit = frame[x.sent].getLsbD bit.val := by
  rw [State.sendsOne, sent, List.getElem?_eq_getElem h]

/-- Settles O50: the start of a reply; a byte refused, the last byte, one before it; arbitration lost; the check. -/
theorem repliesAreSentByteByByte : Obligations.RepliesAreSentByteByByte := by
  refine ⟨fun s c rest settled resetHigh idle silent ready => ?_,
    fun s c sent source node tag r settled sending latched requester tagged reply => ?_,
    fun node source tag r => ⟨rfl, crc_append_crc _, rfl, crc_append⟩⟩
  · obtain ⟨context, others, queue, received⟩ := movesContext_moveContext (s := s) (c := c) .sending rest
    exact ⟨_, (exec_replySendStart settled).trans
      (congrArg Host.Outcome.next (sendStart_of_ready resetHigh idle silent ready)), keepsBut_startSending rest, context,
      others, queue, received, rfl⟩
  · have acked := exec_sendByteAck settled
    have lost := exec_arbitrationLost settled
    have frame := sentFrame_eq latched requester tagged reply
    refine ⟨⟨_, (acked false).trans (congrArg Host.Outcome.next (ackEffect_refused sending)), ?_, endSending_spec s c, rfl⟩,
      fun last => ?_, fun more => ?_, fun within bit => ⟨fun one => ?_, fun zero => ?_⟩⟩
    · exact keepsBut_trans (keepsBut_mono keepsBut_endSending (by simp))
        (keepsBut_mono (keepsBut_setTrunkCause .undelivered) (by simp))
    · exact ⟨_, (acked true).trans (congrArg Host.Outcome.next (ackEffect_last sending (by rwa [frame]))),
        keepsBut_endSending, endSending_spec s c⟩
    · exact ⟨_, (acked true).trans (congrArg Host.Outcome.next (ackEffect_more sending (by rwa [frame]))),
        keepsBut_setLink _, rfl⟩
    · obtain ⟨context, others, ready, received⟩ :=
        movesContext_moveContext (s := s) (c := c) .replyReady (c :: s.trunk.ready)
      exact ⟨_, (lost bit).trans (congrArg Host.Outcome.next
        (lostEffect_of_one sending ((sendsOne_eq frame within).trans one))), keepsBut_putBack, context, others, ready,
        received, rfl⟩
    · exact (lost bit).trans (congrArg Host.Outcome.next
        (lostEffect_of_zero sending ((sendsOne_eq frame within).trans zero)))

end Sys2Proof.Proofs
end
